-- ==== Sys2Proof/Word.lean ====
section
/-! DEFINITION. The words of the CKM4120's two byte-wide ports and the plain number forms of the manual's
"Units and number forms" table (00_scope.md). Quantities the manual never masks or shifts are plain numbers. -/

namespace Sys2Proof

/-- One byte of the host link, the light-engine link or the scaler port. -/
abbrev Byte := BitVec 8

/-- A temperature: a signed whole number of tenths of a degree Celsius (R14). -/
abbrev Temp := Int

end Sys2Proof
end

