-- ==== Sys2Proof/Syntax.lean ====
section
/-! DEFINITION. The commands of the CKM4120: one constructor per row of spec/opcode_table.json, in the table's order,
each with what the outside brings with it: the level of a line the step samples, the readings of the thermistors, the
bytes of a host request's payload, the fields of a light-engine frame. -/

namespace Sys2Proof.Machine

/-- R1: the mount, as the MOUNT strap gives it (low TABLE, high CEILING) and as it is in force. -/
inductive Orientation where
  | table | ceiling
  deriving DecidableEq, Repr

/-- R29: the four fan channels. -/
inductive FanId where
  | f0 | f1 | f2 | f3
  deriving DecidableEq, Repr

/-- R93: the two lens axes. -/
inductive AxisId where
  | h | v
  deriving DecidableEq, Repr

/-- R17: the six thermistor conversions of one sample point, TH0 to TH5, each in tenths of a degree. -/
structure Thermistors where
  th0 : Temp
  th1 : Temp
  th2 : Temp
  th3 : Temp
  th4 : Temp
  th5 : Temp
  deriving DecidableEq, Repr

/-- Which of two steps that fall together at one period end is taken first, where the manual allows both orders:
the duty chain or the supervisor's work (R31); the motor-driver checks or the drift evaluation (R112); the wake by
temperature or the supervisor's work (R200). -/
structure PeriodOrder where
  chainFirst : Bool
  holdFirst  : Bool
  wakeFirst  : Bool
  deriving DecidableEq, Repr

/-- The fields of a complete ADVERT frame (the frame table of R76): minimum drive, minimum run-on in seconds, thermal
values reported, and the level list in list order. -/
structure AdvertFrame where
  minDrive : Nat
  minRunOn : Nat
  thermals : Nat
  levels   : List Nat
  deriving DecidableEq, Repr

/-- The fields of a complete TELEMETRY frame (the frame table of R76): actual drive, echoed toggle, and the two thermal
values, `none` for the invalid marker 8000h. -/
structure TelemetryFrame where
  drive  : Nat
  echo   : Byte
  first  : Option Temp
  second : Option Temp
  deriving DecidableEq, Repr

end Sys2Proof.Machine

namespace Sys2Proof

open Machine

/-- The commands. A host request carries its payload bytes, in the order and widths of R190; a command that samples a
line carries the line's level (`true` is high). -/
inductive Instr where
  | powerOnReset (mount : Orientation)
  | resetN
  | loadingEnd
  | controlPeriodEnd (th : Thermistors) (order : PeriodOrder)
  | spinupExpiry (fan : FanId)
  | kickExpiry (fan : FanId)
  | allowanceTailExpiry
  | testStepEnd
  | runOnLimitExpiry
  | advert (frame : AdvertFrame)
  | telemetry (frame : TelemetryFrame)
  | linkFrameError
  | interbyteTimeout
  | txFrameEnd
  | solicitTimerExpiry
  | noticeTimerExpiry
  | lossTimerExpiry
  | reductionDeadlineExpiry
  | axisStep (axis : AxisId) (endstop : Bool)
  | energiseExpiry (axis : AxisId)
  | holdStageExpiry (axis : AxisId)
  | endstopChange (axis : AxisId) (endstop : Bool)
  | fetch (payload : List Byte)
  | status (payload : List Byte) (lock : Bool)
  | readEvents (payload : List Byte)
  | readCounters (payload : List Byte)
  | rest (payload : List Byte)
  | restart (payload : List Byte)
  | setLightMode (payload : List Byte)
  | setAcoustic (payload : List Byte)
  | fanForce (payload : List Byte)
  | fanRelease (payload : List Byte)
  | fanTest (payload : List Byte)
  | clearFan (payload : List Byte)
  | clearEmergency (payload : List Byte)
  | lensMoveTo (payload : List Byte)
  | lensMoveBy (payload : List Byte)
  | lensHome (payload : List Byte)
  | lensStop (payload : List Byte)
  | lensRecall (payload : List Byte)
  | lensBack (payload : List Byte)
  | setOverrange (payload : List Byte)
  | setDriftMode (payload : List Byte)
  | setKeystone (payload : List Byte)
  | setZoom (payload : List Byte)
  | meshPeek (payload : List Byte)
  | storeOpen (payload : List Byte) (lock : Bool)
  | storeWrite (payload : List Byte)
  | storeCommit (payload : List Byte) (lock : Bool)
  | storeAbandon (payload : List Byte)
  | storeRead (payload : List Byte)
  | unknownKind (kind : Byte) (payload : List Byte)
  | hostFrameInvalid (kind : Byte)
  | pureRead (received : List Byte)
  | programmingEnd (readsBack : Bool)
  | buildComplete
  | burstStart (clocked : List Byte)
  | burstEnd (clocked : List Byte)
  | burstLimitExpiry (clocked : List Byte)
  | frameSync
  | syncAbsentExpiry
  | tachPulse (fan : FanId)
  | linkByteReceived (byte : Byte)
  | resetNRelease (mount : Orientation)
  | transactionStart (received : List Byte)
  deriving DecidableEq, Repr

end Sys2Proof
end

