-- ==== Sys2Proof/Decode.lean ====
section
/-! DEFINITION. The command a word spells by the opcode table's bits. The table gives no row any bits: the CKM4120 takes
request frames, link frames, expiries and line edges, and no command is spelled by a word. -/

namespace Sys2Proof

/-- No row of the opcode table has bits, so no word spells a command. -/
def decodeTableWord (_nbits _w : Nat) : Option Instr := none

end Sys2Proof
end

