-- ==== Sys2Proof/Config.lean ====
section
/-! DEFINITION. What one CKM4120 fixes and the manual leaves open: the free values of the model. A free value has no
body, so no proof can rest on the value it takes. -/

namespace Sys2Proof.Config

/-- R100 gives the ramp to the top speed as (top speed)² / (2 × acceleration) steps. Where that quotient is not a whole
number the manual does not say whether the axis takes the whole number below or the one above: the free value says,
for one top speed and one acceleration, whether it takes the one above. DESIGN CHOICE, notes/assumptions/6.md. -/
opaque rampRoundsUp : Nat → Nat → Bool

end Sys2Proof.Config
end

