-- ==== Sys2Proof/Machine/Types.lean ====
section
/-! DEFINITION. The data types of the CKM4120's twelve blocks: the records State.lean puts together. Plain data, no
functions. Times are instants or lengths in milliseconds of the model's clock (notes/assumptions/1.md); a running
timer is held as the instant at which it expires. -/

namespace Sys2Proof.Machine

/-! ## Fixed numbers of like things -/

/-- The eight temperature channels (R14). -/
inductive Chan where
  | s0 | s1 | s2 | s3 | s4 | s5 | s6 | s7
  deriving DecidableEq, Repr

/-- One value for each lens axis. -/
structure PerAxis (α : Type) where
  h : α
  v : α
  deriving DecidableEq, Repr

/-- One value for each fan. -/
structure PerFan (α : Type) where
  f0 : α
  f1 : α
  f2 : α
  f3 : α
  deriving DecidableEq, Repr

/-- One value for each temperature channel. -/
structure PerChan (α : Type) where
  s0 : α
  s1 : α
  s2 : α
  s3 : α
  s4 : α
  s5 : α
  s6 : α
  s7 : α
  deriving DecidableEq, Repr

/-! ## Configuration unit (R1 to R13) -/

/-- The orientation-source field (R1). -/
inductive OrientationSource where
  | strap | table | ceiling
  deriving DecidableEq, Repr

/-- The installation parameters of one lens axis (R6). -/
structure AxisParams where
  travelLimit  : Nat
  backlash     : Nat
  topSpeed     : Nat
  acceleration : Nat
  pixelsPerStep : Nat
  holdTime     : Nat
  releaseTime  : Nat
  deriving DecidableEq, Repr

/-- The installation parameters of one temperature channel (R7). -/
structure ChannelParams where
  warning  : Temp
  critical : Temp
  derate   : Temp
  deriving DecidableEq, Repr

/-- One entry of a governing set (R8): a channel and an offset. -/
structure GoverningEntry where
  channel : Chan
  offset  : Temp
  deriving DecidableEq, Repr

/-- One breakpoint of a fan curve (R8): a temperature and a duty. -/
structure Breakpoint where
  temp : Temp
  duty : Nat
  deriving DecidableEq, Repr

/-- The installation parameters of one fan (R8). -/
structure FanParams where
  minDuty     : Nat
  fullSpeed   : Nat
  governing   : List GoverningEntry
  curveT      : List Breakpoint
  curveC      : List Breakpoint
  capQuiet    : Nat
  capStandard : Nat
  capHigh     : Nat
  deriving DecidableEq, Repr

/-- The installation record: every installation parameter of R6 to R8 and the orientation source (R174). -/
structure Install where
  source          : OrientationSource
  axes            : PerAxis AxisParams
  vSelfLocking    : Bool
  homeAtStart     : Bool
  kd              : Int
  channels        : PerChan ChannelParams
  derateSet       : List Chan
  motorReduce     : Temp
  motorHold       : Temp
  runOnRelease    : Temp
  fans            : PerFan FanParams
  motionAllowance : Nat
  fanLossCeiling  : Nat
  deriving DecidableEq, Repr

/-- What the configuration unit holds. `startHoming` says that start-up homing has still to be considered at the end of
loading: after power-on reset and RESET_n, and not after RESTART (R103, R115). -/
structure CfgBlock where
  params        : Install
  orientation   : Orientation
  strap         : Orientation
  defaultsInUse : Bool
  startHoming   : Bool
  deriving DecidableEq, Repr

/-! ## Temperature channels (R14 to R28) -/

/-- The quality of a channel's working value (R26). -/
inductive Quality where
  | known | unknown | fault
  deriving DecidableEq, Repr

/-- The state of one temperature channel (R14). `window` is oldest first; `filtered` is `none` while unknown; `held` is
the held telemetry value, `some none` for the invalid marker; `handed` is the working value and quality handed on at
the last sample point (R26), `none` before the channel's first one. -/
structure Channel where
  present    : Bool
  window     : List Temp
  filtered   : Option Temp
  fault      : Bool
  invalidRun : Nat
  validRun   : Nat
  held       : Option (Option Temp)
  handed     : Option (Temp × Quality)
  deriving DecidableEq, Repr

/-- The causes of SENSOR_FAULT (R25). -/
inductive SensorCause where
  | outOfRange | markedInvalid | linkNotUp | recovered | absent
  deriving DecidableEq, Repr

/-- What SEN holds: its channels, and the instant of the last sample point (R16). -/
structure SenBlock where
  channels   : PerChan Channel
  lastSample : Option Nat
  deriving DecidableEq, Repr

/-! ## Fans (R29 to R52) -/

inductive FanState where
  | off | spinup | running | kick | failed | test
  deriving DecidableEq, Repr

/-- The state of one fan channel (R29). `since` is the instant the fan entered its state; `kickPrev` the previous duty of
the chain while the fan is in KICK (R42); `low`, `lowBefore` and `lowAt` keep the lowest duty of the running period, with
and without the duties set at the instant `lowAt`; `periodDuty` is the duty commanded over the last closed period
(R42); `pulses` counts the tachometer pulses of the running period (R41). -/
structure Fan where
  st         : FanState
  duty       : Nat
  speed      : Nat
  override   : Option Nat
  stallRun   : Nat
  attempts   : Nat
  stallCount : Nat
  mismatch   : Nat
  spinupDue  : Option Nat
  kickDue    : Option Nat
  recovering : Bool
  since      : Nat
  kickPrev   : Nat
  low        : Nat
  lowBefore  : Nat
  lowAt      : Nat
  periodDuty : Nat
  pulses     : Nat
  deriving DecidableEq, Repr

inductive Profile where
  | quiet | standard | high
  deriving DecidableEq, Repr

inductive TestResult where
  | notTested | skipped | pass | fail | incomplete
  deriving DecidableEq, Repr

inductive TestOutcome where
  | running | complete | aborted
  deriving DecidableEq, Repr

inductive TestCause where
  | lightOn | emergency
  deriving DecidableEq, Repr

/-- One fan's row of the test record (R50). -/
structure TestRow where
  result : TestResult
  speed1 : Option Nat
  speed2 : Option Nat
  speed3 : Option Nat
  deriving DecidableEq, Repr

/-- The running fan test (R49): the fan whose turn it is, its step 0 to 2, the instant the step began, and the pulses of
the step's last second. -/
structure TestRun where
  fan    : FanId
  step   : Nat
  start  : Nat
  pulses : Nat
  deriving DecidableEq, Repr

/-- The fan-test record of R50 and the running test, if any. -/
structure FanTest where
  run     : Option TestRun
  rows    : PerFan TestRow
  outcome : Option TestOutcome
  cause   : Option TestCause
  deriving DecidableEq, Repr

/-- What FAN holds (R29): the channels, the profile, the motion allowance with its tail timer, the test. -/
structure FanBlock where
  fans      : PerFan Fan
  profile   : Profile
  allowance : Bool
  tailDue   : Option Nat
  test      : FanTest
  deriving DecidableEq, Repr

/-! ## Thermal supervisor (R53 to R74) -/

inductive Regime where
  | normal | protect | emergency
  deriving DecidableEq, Repr

/-- The regime causes of R61, in the order in which its table first names them. -/
inductive Cause where
  | critical | fanFailed | thermalRunaway | ackTimeout | overdrive | linkLost
  | sensorFault | warning | recirculation | cooled | clearedByHost
  deriving DecidableEq, Repr

/-- A cause with the channel or fan it concerns, where it has one (R61). -/
structure CauseAt where
  cause : Cause
  index : Option Nat
  deriving DecidableEq, Repr

inductive RunOnEnd where
  | none | temperature | timeLimit
  deriving DecidableEq, Repr

/-- What TSV holds (R53). `runOn` is the instant run-on began while it is active: its elapsed timer and its 600 s limit
timer both run from it. `recircLast` is whether recirculation was present at the last period end (R61), `causes` the
causes that held there, and `excess` the derate excess of the last PROTECT period end, `none` before one (R74). -/
structure TsvBlock where
  regime      : Regime
  entryCause  : Option CauseAt
  periodLen   : Nat
  periodStart : Nat
  ceiling     : Nat
  requested   : Nat
  lightMax    : Nat
  floor       : Nat
  dwell       : Nat
  recirc      : Bool
  recircLast  : Bool
  entryCount  : Nat
  clearCount  : Nat
  runOn       : Option Nat
  lastDrive   : Nat
  lastRunOnEnd : RunOnEnd
  handedN     : Option Nat
  causes      : List CauseAt
  excess      : Option Int
  deriving DecidableEq, Repr

/-! ## Light-engine link (R75 to R92) -/

inductive LinkState where
  | down | up | lost
  deriving DecidableEq, Repr

inductive RejectReason where
  | minDrive | levelRange | levelOrder | runOn | thermalCount
  deriving DecidableEq, Repr

/-- A frame that waits to be sent (R75): a NOTICE takes its values when it is sent. -/
inductive WaitingFrame where
  | solicit
  | advertReply
  | advertReject (reason : RejectReason)
  | notice
  deriving DecidableEq, Repr

/-- A frame being sent (R75), with the values it carries. -/
inductive TxFrame where
  | solicit
  | advertReply
  | advertReject (reason : RejectReason)
  | notice (n : Nat) (toggle : Bool) (regime : Regime)
  deriving DecidableEq, Repr

/-- The receiver (R76): hunting, or collecting a frame, with the bytes stored since the start byte and the instant at
which the 2 ms gap runs out. -/
inductive Receiver where
  | hunting
  | collecting (bytes : List Byte) (gapDue : Nat)
  deriving DecidableEq, Repr

/-- What LEL holds (R77), with its transmitter (R75) and receiver (R76). `deadlineWaits` says that the reduction deadline
counts from a NOTICE that still waits to be sent (R83). -/
structure LelBlock where
  st            : LinkState
  resolved      : Option AdvertFrame
  drive         : Nat
  n             : Option Nat
  toggle        : Bool
  ack           : Option Nat
  lastEcho      : Option Byte
  deadline      : Option Nat
  deadlineWaits : Bool
  overCount     : Nat
  frameErrors   : Nat
  lossDue       : Option Nat
  solicitDue    : Option Nat
  noticeDue     : Option Nat
  sending       : Option TxFrame
  waiting       : List WaitingFrame
  rx            : Receiver
  deriving DecidableEq, Repr

inductive LinkCause where
  | advertAccepted | readvertised | telemetryTimeout
  deriving DecidableEq, Repr

/-! ## Axis controllers (R93 to R116) -/

inductive AxisState where
  | unreferenced | homing | idle | energising | moving | suspended | fault
  deriving DecidableEq, Repr

inductive HoldLevel where
  | full | reduced | released
  deriving DecidableEq, Repr

inductive HomeOrigin where
  | start | request
  deriving DecidableEq, Repr

/-- The order an axis carries out or keeps (R93): a move with its motor target, or a home. -/
inductive AxisOrder where
  | move (target : Nat)
  | home (origin : HomeOrigin)
  deriving DecidableEq, Repr

/-- The answers of an axis to its order (R94). -/
inductive AxisAnswer where
  | ok | stopped | slipped | notReferenced | axisFault
  deriving DecidableEq, Repr

/-- Whether an axis in a segment is decelerating, with the steps left to its stop: under a halt (R105) or under motion
hold (R109). -/
inductive Stopping where
  | no
  | halt (left : Nat)
  | hold (left : Nat)
  deriving DecidableEq, Repr

/-- The segment in progress of a move (R100): the motor position it ends at, the steps issued in it, its deceleration. -/
structure Motion where
  goal     : Nat
  run      : Nat
  stopping : Stopping
  deriving DecidableEq, Repr

/-- The phase of a homing (R103): steps backed off so far, or steps sought so far and the travel limit counted. -/
inductive HomePhase where
  | backOff (steps : Nat)
  | seek (steps : Nat) (limit : Nat)
  deriving DecidableEq, Repr

/-- The state of one axis (R93). `pos` is the motor position, `none` while unknown: the referenced flag is `pos.isSome`.
`endstop` is the level of the end-stop input as last tested or changed; `dirUp` is the DIR output. -/
structure Axis where
  st          : AxisState
  pos         : Option Nat
  hold        : HoldLevel
  holdDue     : Option Nat
  energiseDue : Option Nat
  order       : Option AxisOrder
  keptHome    : Bool
  slipCount   : Nat
  motion      : Option Motion
  homing      : Option HomePhase
  dirUp       : Bool
  endstop     : Bool
  deriving DecidableEq, Repr

/-- What AXC holds: both axes and the part-wide conditions forced reduced hold and motion hold (R108, R109). -/
structure AxcBlock where
  axes   : PerAxis Axis
  forced : Bool
  held   : Bool
  deriving DecidableEq, Repr

inductive HomeResult where
  | ok | failed | stopped
  deriving DecidableEq, Repr

inductive HomeCause where
  | notFound | endstopStuck
  deriving DecidableEq, Repr

inductive SlipCause where
  | inMotion | atRest
  deriving DecidableEq, Repr

/-- What a motion hold did to one axis or takes up again (R112). -/
inductive HoldEffect where
  | suspendedMove (screenTarget : Int)
  | keptHome
  | nothing
  deriving DecidableEq, Repr

/-! ## Geometry (R139 to R158) -/

/-- The inward displacement of one corner (R145). -/
structure Corner where
  dx : Int
  dy : Int
  deriving DecidableEq, Repr

/-- The keystone form in force with its values (R139). -/
inductive Keystone where
  | slope (kv kh : Int)
  | corners (tl tr br bl : Corner)
  deriving DecidableEq, Repr

/-- The geometry part of a preset (R126, R142): keystone and zoom. -/
structure GeometryPart where
  keystone : Keystone
  zoom     : Nat
  deriving DecidableEq, Repr

/-- A point of the panel plane, in 1/1024 pixel: every corner of R146 and R147 is a whole number of them. -/
structure Point where
  x : Int
  y : Int
  deriving DecidableEq, Repr

structure Quad where
  tl : Point
  tr : Point
  br : Point
  bl : Point
  deriving DecidableEq, Repr

/-- What a composition forms (R144): the composed quad, the requested shift in whole pixels, the applied shift in 1/1024
pixel, and the two marks. -/
structure Composition where
  quad      : Quad
  requested : Point
  applied   : Point
  clipped   : Bool
  identity  : Bool
  deriving DecidableEq, Repr

/-- What GEO holds (R139). -/
structure GeoBlock where
  keystone : Keystone
  zoom     : Nat
  residual : PerAxis Int
  comp     : Composition
  deriving DecidableEq, Repr

/-- The copy of all geometry inputs and of the composition taken at the start of a build (R149). -/
structure Snapshot where
  comp          : Composition
  keystone      : Keystone
  zoom          : Nat
  residual      : PerAxis Int
  pixelsPerStep : PerAxis Nat
  orientation   : Orientation
  deriving DecidableEq, Repr

inductive Bank where
  | a | b
  deriving DecidableEq, Repr

/-- A build in flight: its snapshot and the bank it writes (R148). -/
structure Build where
  snapshot : Snapshot
  target   : Bank
  deriving DecidableEq, Repr

/-- What MSE holds (R148): the build in flight, if any, and the sequence counter. -/
structure MseBlock where
  build   : Option Build
  counter : Nat
  deriving DecidableEq, Repr

/-! ## Scaler port (R159 to R173) -/

/-- One mesh node (R152): source coordinates in eighths of a pixel, and the OUTSIDE mark. -/
structure Node where
  sx      : Nat
  sy      : Nat
  outside : Bool
  deriving DecidableEq, Repr

/-- The mesh header (R154, R160). -/
structure Header where
  seq          : Nat
  bank         : Bank
  orientation  : Orientation
  identity     : Bool
  clipped      : Bool
  outsideCount : Nat
  nodeCount    : Nat
  check        : Nat
  deriving DecidableEq, Repr

/-- The contents of one bank (R159): header, 187 nodes, duplicate header. -/
structure Mesh where
  header    : Header
  nodes     : List Node
  duplicate : Header
  deriving DecidableEq, Repr

inductive BankState where
  | live | spare | building | ready
  deriving DecidableEq, Repr

/-- How far a burst has come (R163): its command byte, its two address bytes, its data, or ignored. -/
inductive BurstPhase where
  | command
  | addressHigh
  | addressLow (high : Nat)
  | data (next : Nat)
  | ignored
  deriving DecidableEq, Repr

/-- The scaler port's line: no select, a burst in progress with its latched bank and its limit (R163), or a select still
asserted after its burst has been ended or cut off (R164, R173). -/
inductive ScalerLine where
  | idle
  | burst (bank : Bank) (phase : BurstPhase) (limitDue : Nat)
  | spent
  deriving DecidableEq, Repr

/-- What SCP holds (R159), the two banks' contents, and the bytes sent in the transaction of the last select. -/
structure ScpBlock where
  live        : Bank
  stateA      : BankState
  stateB      : BankState
  meshA       : Mesh
  meshB       : Mesh
  line        : ScalerLine
  swapPending : Bool
  syncAbsent  : Bool
  syncDue     : Option Nat
  sent        : List Byte
  deriving DecidableEq, Repr

inductive SwapCause where
  | frameSync | burstEnd | syncAbsent
  deriving DecidableEq, Repr

/-! ## Lens controller (R117 to R138) -/

inductive OverrangeMode where
  | clamp | digital
  deriving DecidableEq, Repr

inductive DriftMode where
  | off | motor | digital
  deriving DecidableEq, Repr

inductive Origin where
  | moveTo | moveBy | home | recall | back
  deriving DecidableEq, Repr

/-- Request and axis outcomes (R124, R129, coded by R191). -/
inductive LensOutcome where
  | ok | clamped | stopped | slipped | notReferenced | axisFault | historyEmpty
  deriving DecidableEq, Repr

/-- One axis part of a queue entry (R118): a move to a clamped screen target, or a home. -/
inductive Part where
  | move (target : Int) (clamped : Bool) (remainder : Int)
  | home
  deriving DecidableEq, Repr

/-- The copy of a preset in a recall's entry (R118). -/
structure PresetCopy where
  tcal     : Option Temp
  geometry : Option GeometryPart
  deriving DecidableEq, Repr

/-- A queue entry (R118). -/
structure Request where
  tag    : Byte
  origin : Origin
  parts  : PerAxis (Option Part)
  preset : Option PresetCopy
  deriving DecidableEq, Repr

/-- The executing request with its per-axis answers so far (R117). -/
structure Executing where
  request : Request
  answers : PerAxis (Option AxisAnswer)
  deriving DecidableEq, Repr

/-- One entry of the outcome list (R117). -/
structure OutcomeEntry where
  tag     : Byte
  origin  : Origin
  outcome : LensOutcome
  axes    : PerAxis (Option LensOutcome)
  deriving DecidableEq, Repr

/-- A drift correction in flight (R133): its held base and its aim. -/
structure Correction where
  heldBase : Int
  aim      : Int
  deriving DecidableEq, Repr

/-- What LNC holds (R117). `queue` and `outcomes` are oldest first, `history` is newest first. -/
structure LncBlock where
  queue         : List Request
  executing     : Option Executing
  history       : List (PerAxis (Option Int))
  outcomes      : List OutcomeEntry
  overrangeMode : OverrangeMode
  overrange     : PerAxis Int
  driftMode     : DriftMode
  tcal          : Option Temp
  desired       : Int
  applied       : Int
  driftResidual : Int
  correction    : Option Correction
  deriving DecidableEq, Repr

/-! ## Settings store (R174 to R187) -/

/-- The working-settings record (R174). -/
structure Working where
  lightMode     : Nat
  profile       : Profile
  keystone      : Keystone
  zoom          : Nat
  overrangeMode : OverrangeMode
  driftMode     : DriftMode
  deriving DecidableEq, Repr

/-- A preset record (R126, R174): a name and four optional parts. -/
structure Preset where
  name     : List Byte
  hPos     : Option Nat
  vPos     : Option Nat
  tcal     : Option Temp
  geometry : Option GeometryPart
  deriving DecidableEq, Repr

inductive RecordId where
  | install
  | working
  | preset (n : Fin 10)
  deriving DecidableEq, Repr

/-- The contents of one record: every one of its fields. -/
inductive RecordFields where
  | install (fields : Install)
  | working (fields : Working)
  | preset (n : Fin 10) (fields : Preset)
  deriving DecidableEq, Repr

/-- One record of the non-volatile array (R175): its completion mark, whether its check value matches its fields, and the
fields, `none` where nothing was ever written. -/
structure Cell (α : Type) where
  mark   : Bool
  check  : Bool
  fields : Option α
  deriving DecidableEq, Repr

/-- The non-volatile array of twelve records (R174). -/
structure NvArray where
  install : Cell Install
  working : Cell Working
  presets : Vector (Cell Preset) 10
  deriving DecidableEq, Repr

/-- The record images (R174): `none` is absent. -/
structure Images where
  install : Option Install
  working : Option Working
  presets : Vector (Option Preset) 10
  deriving DecidableEq, Repr

/-- One staged field (R180): its code and index and the value bytes as written. -/
structure StagedField where
  code  : Byte
  index : Byte
  value : List Byte
  deriving DecidableEq, Repr

/-- The open stage (R179): the record and its written fields. -/
structure Stage where
  record : RecordId
  fields : List StagedField
  deriving DecidableEq, Repr

/-- A programming in flight (R183): the full field set being written, the number of fields written in the stage, the
timer, and whether a RESTART waits for its end (R178). -/
structure Programming where
  fields      : RecordFields
  written     : Nat
  due         : Nat
  thenLoading : Bool
  deriving DecidableEq, Repr

/-- The store state with what only that state holds (R174). -/
inductive StoreState where
  | loading
  | idle
  | staged (stage : Stage)
  | programming (prog : Programming)
  deriving DecidableEq, Repr

/-- What STO holds: its state, the record images and the array. -/
structure StoBlock where
  st     : StoreState
  images : Images
  array  : NvArray
  deriving DecidableEq, Repr

/-! ## Host link interface (R188 to R202) -/

/-- The causes of WOKE (R200). -/
inductive WakeCause where
  | temperature (channel : Chan)
  | regime (new : Regime)
  | lightOn
  deriving DecidableEq, Repr

/-- The details of the sixteen event kinds (R193 and the rules it names). -/
inductive Event where
  | regimeChanged (previous new : Regime) (cause : CauseAt)
  | sensorFault (channel : Chan) (fault : Bool) (cause : SensorCause)
  | fanFault (fan : FanId) (stallCount : Nat)
  | fanTestDone (outcome : TestOutcome) (cause : Option TestCause) (failed : Nat)
  | overrideCleared (fans : List FanId) (cause : Regime)
  | ceilingChanged (previous new n : Option Nat)
  | linkChanged (previous new : LinkState) (cause : LinkCause) (loss : Option (Nat × Bool))
  | cooldownDone (cause : RunOnEnd) (seconds : Nat)
  | lensDone (entry : OutcomeEntry) (bases : PerAxis (Option Int))
  | homeDone (axis : AxisId) (result : HomeResult) (cause : Option HomeCause) (origin : HomeOrigin)
  | slip (axis : AxisId) (cause : SlipCause) (position count : Nat)
  | motionHeld (held : Bool) (s5 : Temp) (effects : PerAxis HoldEffect)
  | meshLive (header : Header) (cause : SwapCause)
  | shiftClipped (requested applied : Point)
  | storeDone (record : RecordId) (ok : Bool) (written : Nat)
  | woke (cause : WakeCause)
  deriving DecidableEq, Repr

/-- One entry of the event queue (R193): a count and the detail of the latest occurrence, which fixes its kind. -/
structure QueueEntry where
  count  : Nat
  detail : Event
  deriving DecidableEq, Repr

/-- The response buffer (R188): status, echoed kind and payload. -/
structure Response where
  status  : Nat
  kind    : Byte
  payload : List Byte
  deriving DecidableEq, Repr

/-- The host link's line (R188): no transaction, one in progress with the bytes received so far, or one cut off by
RESET_n whose select is still asserted. -/
inductive HostLine where
  | idle
  | active (received : List Byte)
  | cut
  deriving DecidableEq, Repr

/-- What HLI holds (R188): the response buffer, the line, the bytes sent in the last transaction so far, the event queue
oldest first, READY and Rest. ATTN is the queue's (R194): Flags.lean. -/
structure HliBlock where
  response : Response
  line     : HostLine
  sent     : List Byte
  queue    : List QueueEntry
  ready    : Bool
  rest     : Bool
  deriving DecidableEq, Repr

end Sys2Proof.Machine
end

