-- ==== Sys2Proof/Machine/Indexed.lean ====
section
/-! DEFINITION. Reading and replacing one of a fixed number of like things: by axis, by fan, by channel; the lists of all
fans and channels in their fixed order; and the indexes of the settings-store field table (R175, R191). -/

namespace Sys2Proof.Machine

def PerAxis.get {α : Type} (p : PerAxis α) : AxisId → α
  | .h => p.h
  | .v => p.v

def PerAxis.set {α : Type} (p : PerAxis α) (a : AxisId) (x : α) : PerAxis α :=
  match a with
  | .h => { p with h := x }
  | .v => { p with v := x }

def PerAxis.map {α β : Type} (f : α → β) (p : PerAxis α) : PerAxis β := { h := f p.h, v := f p.v }

def PerFan.get {α : Type} (p : PerFan α) : FanId → α
  | .f0 => p.f0
  | .f1 => p.f1
  | .f2 => p.f2
  | .f3 => p.f3

def PerFan.set {α : Type} (p : PerFan α) (f : FanId) (x : α) : PerFan α :=
  match f with
  | .f0 => { p with f0 := x }
  | .f1 => { p with f1 := x }
  | .f2 => { p with f2 := x }
  | .f3 => { p with f3 := x }

/-- A function of the fan applied to each fan's value. -/
def PerFan.mapWith {α β : Type} (g : FanId → α → β) (p : PerFan α) : PerFan β :=
  { f0 := g .f0 p.f0, f1 := g .f1 p.f1, f2 := g .f2 p.f2, f3 := g .f3 p.f3 }

def PerFan.all {α : Type} (x : α) : PerFan α := { f0 := x, f1 := x, f2 := x, f3 := x }

/-- F0 to F3 in order. -/
def FanId.list : List FanId := [.f0, .f1, .f2, .f3]

def FanId.index : FanId → Nat
  | .f0 => 0
  | .f1 => 1
  | .f2 => 2
  | .f3 => 3

def FanId.ofIndex : Nat → Option FanId
  | 0 => some .f0
  | 1 => some .f1
  | 2 => some .f2
  | 3 => some .f3
  | _ => none

/-- The fans whose turn in a fan test comes after one fan's (R49). -/
def FanId.after : FanId → List FanId
  | .f0 => [.f1, .f2, .f3]
  | .f1 => [.f2, .f3]
  | .f2 => [.f3]
  | .f3 => []

def AxisId.index : AxisId → Nat
  | .h => 0
  | .v => 1

def AxisId.ofIndex : Nat → Option AxisId
  | 0 => some .h
  | 1 => some .v
  | _ => none

def AxisId.list : List AxisId := [.h, .v]

def PerChan.get {α : Type} (p : PerChan α) : Chan → α
  | .s0 => p.s0
  | .s1 => p.s1
  | .s2 => p.s2
  | .s3 => p.s3
  | .s4 => p.s4
  | .s5 => p.s5
  | .s6 => p.s6
  | .s7 => p.s7

def PerChan.set {α : Type} (p : PerChan α) (c : Chan) (x : α) : PerChan α :=
  match c with
  | .s0 => { p with s0 := x }
  | .s1 => { p with s1 := x }
  | .s2 => { p with s2 := x }
  | .s3 => { p with s3 := x }
  | .s4 => { p with s4 := x }
  | .s5 => { p with s5 := x }
  | .s6 => { p with s6 := x }
  | .s7 => { p with s7 := x }

/-- S0 to S7 in ascending order (R16). -/
def Chan.list : List Chan := [.s0, .s1, .s2, .s3, .s4, .s5, .s6, .s7]

def Chan.index : Chan → Nat
  | .s0 => 0
  | .s1 => 1
  | .s2 => 2
  | .s3 => 3
  | .s4 => 4
  | .s5 => 5
  | .s6 => 6
  | .s7 => 7

def Chan.ofIndex : Nat → Option Chan
  | 0 => some .s0
  | 1 => some .s1
  | 2 => some .s2
  | 3 => some .s3
  | 4 => some .s4
  | 5 => some .s5
  | 6 => some .s6
  | 7 => some .s7
  | _ => none

def Bank.other : Bank → Bank
  | .a => .b
  | .b => .a

def ScpBlock.stateOf (p : ScpBlock) : Bank → BankState
  | .a => p.stateA
  | .b => p.stateB

def ScpBlock.withState (p : ScpBlock) (k : Bank) (x : BankState) : ScpBlock :=
  match k with
  | .a => { p with stateA := x }
  | .b => { p with stateB := x }

def ScpBlock.meshOf (p : ScpBlock) : Bank → Mesh
  | .a => p.meshA
  | .b => p.meshB

def ScpBlock.withMesh (p : ScpBlock) (k : Bank) (m : Mesh) : ScpBlock :=
  match k with
  | .a => { p with meshA := m }
  | .b => { p with meshB := m }

end Sys2Proof.Machine
end

