-- ==== Sys2Proof/Machine/Defaults.lean ====
section
/-! DEFINITION. The factory defaults of the installation parameters (R6 to R8), the defaults of the other records (the
store field table of R175), and what each block holds after a reset, as its own rule gives it. -/

namespace Sys2Proof.Machine

/-! ## Factory defaults -/

/-- R6, column H. -/
def AxisParams.defaultH : AxisParams :=
  { travelLimit := 6000, backlash := 40, topSpeed := 800, acceleration := 2000, pixelsPerStep := 128,
    holdTime := 2000, releaseTime := 30 }

/-- R6, column V. -/
def AxisParams.defaultV : AxisParams :=
  { travelLimit := 12000, backlash := 40, topSpeed := 600, acceleration := 2000, pixelsPerStep := 128,
    holdTime := 2000, releaseTime := 30 }

/-- R7's table. -/
def channelDefaults : PerChan ChannelParams :=
  { s0 := { warning := 400, critical := 500, derate := 350 }
    s1 := { warning := 600, critical := 750, derate := 550 }
    s2 := { warning := 650, critical := 800, derate := 580 }
    s3 := { warning := 550, critical := 700, derate := 500 }
    s4 := { warning := 850, critical := 1000, derate := 800 }
    s5 := { warning := 900, critical := 1050, derate := 850 }
    s6 := { warning := 800, critical := 950, derate := 720 }
    s7 := { warning := 800, critical := 950, derate := 720 } }

/-- R8: the set-T curve every fan has by default. -/
def curveTDefault : List Breakpoint :=
  [{ temp := 300, duty := 250 }, { temp := 400, duty := 400 }, { temp := 500, duty := 700 }, { temp := 600, duty := 1000 }]

/-- R8: the set-C curve every fan has by default. -/
def curveCDefault : List Breakpoint :=
  [{ temp := 280, duty := 300 }, { temp := 380, duty := 450 }, { temp := 480, duty := 750 }, { temp := 580, duty := 1000 }]

/-- R8: one fan's defaults from the columns that differ between the fans. -/
def FanParams.default (fullSpeed : Nat) (governing : List GoverningEntry) (capQuiet capStandard : Nat) : FanParams :=
  { minDuty := 200, fullSpeed := fullSpeed, governing := governing, curveT := curveTDefault, curveC := curveCDefault,
    capQuiet := capQuiet, capStandard := capStandard, capHigh := 1000 }

/-- R8's table. -/
def fanDefaults : PerFan FanParams :=
  { f0 := .default 2400 [{ channel := .s0, offset := 0 }] 500 750
    f1 := .default 2400 [{ channel := .s1, offset := 0 }, { channel := .s4, offset := -200 }] 500 750
    f2 := .default 4200 [{ channel := .s6, offset := 0 }, { channel := .s7, offset := 0 }, { channel := .s2, offset := -100 }]
            600 800
    f3 := .default 3000 [{ channel := .s2, offset := 0 }] 500 750 }

/-- The factory defaults of every installation parameter (R6 to R8), orientation source STRAP. -/
def Install.factory : Install :=
  { source := .strap, axes := { h := .defaultH, v := .defaultV }, vSelfLocking := false, homeAtStart := true, kd := 0,
    channels := channelDefaults, derateSet := [.s2, .s6, .s7], motorReduce := 750, motorHold := 850, runOnRelease := 450,
    fans := fanDefaults, motionAllowance := 150, fanLossCeiling := 700 }

/-- The defaults of the working-settings record (store field table; R34, R63, R125, R131, R139). -/
def Working.default : Working :=
  { lightMode := 1000, profile := .standard, keystone := .slope 0 0, zoom := 1024, overrangeMode := .clamp,
    driftMode := .off }

/-- The defaults of a preset record (store field table). -/
def Preset.default : Preset := { name := [], hPos := none, vPos := none, tcal := none, geometry := none }

/-! ## The blocks after a reset -/

/-- R15, R28: a channel after any reset, present or absent. -/
def Channel.reset (present : Bool) : Channel :=
  { present := present, window := [], filtered := none, fault := false, invalidRun := 0, validRun := 0, held := none,
    handed := none }

/-- R28: S0 to S5 present, S6 and S7 absent. -/
def SenBlock.reset : SenBlock :=
  { channels :=
      { s0 := .reset true, s1 := .reset true, s2 := .reset true, s3 := .reset true, s4 := .reset true, s5 := .reset true,
        s6 := .reset false, s7 := .reset false }
    lastSample := none }

/-- R29's last column. -/
def Fan.reset (now : Nat) : Fan :=
  { st := .off, duty := 0, speed := 0, override := none, stallRun := 0, attempts := 0, stallCount := 0, mismatch := 0,
    spinupDue := none, kickDue := none, recovering := false, since := now, kickPrev := 0, low := 0, lowBefore := 0,
    lowAt := now, periodDuty := 0, pulses := 0 }

def TestRow.empty : TestRow := { result := .notTested, speed1 := none, speed2 := none, speed3 := none }

/-- R29: the test record empty and no fan test running. That an empty record has no outcome is the model's choice
(notes/assumptions/45.md). -/
def FanTest.empty : FanTest := { run := none, rows := .all .empty, outcome := none, cause := none }

/-- R29, R34, R35. -/
def FanBlock.reset (now : Nat) : FanBlock :=
  { fans := .all (.reset now), profile := .standard, allowance := false, tailDue := none, test := .empty }

/-- R53's last column. R53 gives no value for the causes that R74 reports: that there are none before the first period end is the
model's choice (notes/assumptions/41.md), and so is the derate excess (notes/assumptions/36.md). -/
def TsvBlock.reset (now : Nat) : TsvBlock :=
  { regime := .normal, entryCause := none, periodLen := 250, periodStart := now, ceiling := 1000, requested := 1000,
    lightMax := 1000, floor := 0, dwell := 0, recirc := false, recircLast := false, entryCount := 0, clearCount := 0,
    runOn := none, lastDrive := 0, lastRunOnEnd := .none, handedN := none, causes := [], excess := none }

/-- R77's last column: DOWN, the first SOLICIT being sent and the solicit timer running. -/
def LelBlock.reset (now : Nat) : LelBlock :=
  { st := .down, resolved := none, drive := 0, n := none, toggle := false, ack := none, lastEcho := none, deadline := none,
    deadlineWaits := false, overCount := 0, frameErrors := 0, lossDue := none, solicitDue := some (now + 200),
    noticeDue := none, sending := some .solicit, waiting := [], rx := .hunting }

/-- R114: one axis after power-on reset or RESET_n, at its resting level, its end-stop input at its present level. -/
def Axis.reset (hold : HoldLevel) (endstop : Bool) : Axis :=
  { st := .unreferenced, pos := none, hold := hold, holdDue := none, energiseDue := none, order := none, keptHome := false,
    slipCount := 0, motion := none, homing := none, dirUp := true, endstop := endstop }

/-- R114: H RELEASED, V REDUCED, because the factory defaults have V self-locking off. -/
def AxcBlock.reset (endstops : PerAxis Bool) : AxcBlock :=
  { axes := { h := .reset .released endstops.h, v := .reset .reduced endstops.v }, forced := false, held := false }

/-- R117's last column. -/
def LncBlock.reset : LncBlock :=
  { queue := [], executing := none, history := [], outcomes := [], overrangeMode := .clamp, overrange := { h := 0, v := 0 },
    driftMode := .off, tcal := none, desired := 0, applied := 0, driftResidual := 0, correction := none }

/-- R139: the whole panel, in 1/1024 pixel. -/
def Quad.panel : Quad :=
  { tl := { x := 0, y := 0 }, tr := { x := 3840 * 1024, y := 0 }, br := { x := 3840 * 1024, y := 2160 * 1024 },
    bl := { x := 0, y := 2160 * 1024 } }

/-- R139's last column. -/
def GeoBlock.reset : GeoBlock :=
  { keystone := .slope 0 0, zoom := 1024, residual := { h := 0, v := 0 },
    comp := { quad := .panel, requested := { x := 0, y := 0 }, applied := { x := 0, y := 0 }, clipped := false,
              identity := true } }

/-- R148: no build, the counter 0. -/
def MseBlock.reset : MseBlock := { build := none, counter := 0 }

def Bank.code : Bank → Nat
  | .a => 0
  | .b => 1

/-- R162: the header of the empty mesh, with its matching check: 69 in bank A and 68 in bank B. -/
def Header.empty (k : Bank) : Header :=
  { seq := 0, bank := k, orientation := .table, identity := false, clipped := false, outsideCount := 0, nodeCount := 187,
    check := 69 - k.code }

/-- R162: the empty mesh. -/
def Mesh.empty (k : Bank) : Mesh :=
  { header := .empty k, nodes := List.replicate 187 { sx := 0, sy := 0, outside := false }, duplicate := .empty k }

/-- R159, R173: the scaler port after power-on reset or RESET_n. -/
def ScpBlock.reset (now : Nat) : ScpBlock :=
  { live := .a, stateA := .live, stateB := .spare, meshA := .empty .a, meshB := .empty .b, line := .idle,
    swapPending := false, syncAbsent := false, syncDue := some (now + 100), sent := [] }

/-- R175: a record of a new part. -/
def Cell.blank {α : Type} : Cell α := { mark := false, check := false, fields := none }

/-- R175: a new part has every record absent. -/
def NvArray.blank : NvArray := { install := .blank, working := .blank, presets := Vector.replicate 10 .blank }

/-- No record image formed. R174 has the images formed by loading (R177) and gives no value before it; that all twelve are absent
until then is the model's choice (notes/assumptions/38.md). -/
def Images.absent : Images := { install := none, working := none, presets := Vector.replicate 10 none }

/-- R174: LOADING, no stage, no programming. -/
def StoBlock.reset (array : NvArray) : StoBlock := { st := .loading, images := .absent, array := array }

/-- R2: the factory defaults with the strap's orientation, defaults in use. -/
def CfgBlock.reset (strap : Orientation) : CfgBlock :=
  { params := .factory, orientation := strap, strap := strap, defaultsInUse := true, startHoming := true }

/-- R188: the response buffer after power-on reset or RESET_n: STARTING, echoed kind FETCH, no payload. -/
def HliBlock.reset : HliBlock :=
  { response := { status := 0x16, kind := 0x00#8, payload := [] }, line := .idle, sent := [], queue := [], ready := false,
    rest := false }

end Sys2Proof.Machine
end

