-- ==== Sys2Proof/Machine/State.lean ====
section
/-! DEFINITION. The state of the CKM4120: its twelve blocks, the model's clock, whether RESET_n is low, the level of
INSTALL_LOCK as last sampled, and the queue of waiting commands; the reasons a step can stop; the machine after reset. -/

namespace Sys2Proof.Machine

/-- The faults of a step. There is none: every command of the CKM4120 has an effect in every state, so no meaning raises
a fault, and nothing is left for one to be safe or the contrary. -/
inductive Fault where
  deriving DecidableEq, Repr

/-- The refusals of a step. -/
inductive Refusal where
  /-- Raised by an arm of `exec` for a command whose meaning is not modelled, by its mnemonic. No arm raises it. Safe: the
  model stops where the hardware goes on. -/
  | notModelled (mnemonic : String)
  deriving DecidableEq, Repr

/-- The state of the part. `now` is the model's clock in milliseconds and `pending` the queue of waiting commands, first
in first out: both are the model's own (notes/assumptions/1.md and 2.md). -/
structure State where
  now         : Nat
  inReset     : Bool
  installLock : Bool
  cfg         : CfgBlock
  sen         : SenBlock
  fan         : FanBlock
  tsv         : TsvBlock
  lel         : LelBlock
  axc         : AxcBlock
  lnc         : LncBlock
  geo         : GeoBlock
  mse         : MseBlock
  scp         : ScpBlock
  sto         : StoBlock
  hli         : HliBlock
  pending     : List Instr
  deriving DecidableEq, Repr

/-- Every block as it stands right after a power-on reset or RESET_n has ended: R2, R28, R29, R53, R77, R114, R117, R139,
R148, R173, R174, R188. The array is what survives a reset (R174); the strap is the level just sampled (R1). -/
def State.afterReset (now : Nat) (strap : Orientation) (lock : Bool) (endstops : PerAxis Bool) (array : NvArray)
    (pending : List Instr) : State :=
  { now := now, inReset := false, installLock := lock, cfg := .reset strap, sen := .reset, fan := .reset now,
    tsv := .reset now, lel := .reset now, axc := .reset endstops, lnc := .reset, geo := .reset, mse := .reset,
    scp := .reset now, sto := .reset array, hli := .reset, pending := pending }

/-- The machine right after reset: a new part, whose array holds no record (R175), after a power-on reset that sampled
MOUNT low. The input lines' levels are the model's choice (notes/assumptions/3.md). -/
def State.reset : State := .afterReset 0 .table false { h := false, v := false } .blank []

end Sys2Proof.Machine
end

