-- ==== Sys2Proof/Machine/Operands.lean ====
section
/-! DEFINITION. The bytes of the ports: the number forms and codes of R190 and R191, the parsing of a request's payload
into its fields, the detail bytes of the events, the light-engine frames with their CRC-8 (R75, R76). Where the rules
fix no width, the width is the model's: notes/assumptions/5.md. -/

namespace Sys2Proof.Machine

/-! ## Numbers as bytes (R190) -/

def u8 (n : Nat) : List Byte := [BitVec.ofNat 8 n]

/-- Two bytes, most significant first. -/
def u16 (n : Nat) : List Byte := [BitVec.ofNat 8 (n / 256), BitVec.ofNat 8 n]

/-- A signed 16-bit number, most significant byte first. -/
def i16 (z : Int) : List Byte := u16 (z % 65536).toNat

/-- A signed 32-bit number, most significant byte first. -/
def i32 (z : Int) : List Byte :=
  let n := (z % 4294967296).toNat
  u16 (n / 65536) ++ u16 (n % 65536)

/-- An optional field: a presence byte, then the field where it is present. -/
def optBytes {α : Type} (f : α → List Byte) : Option α → List Byte
  | none => u8 0
  | some x => u8 1 ++ f x

/-- A list: a count byte, then its elements. -/
def listBytes {α : Type} (f : α → List Byte) (xs : List α) : List Byte := u8 xs.length ++ xs.flatMap f

/-- A mark the rules list no values for: 0 no, 1 yes. -/
def flag (x : Bool) : List Byte := u8 (if x then 1 else 0)

/-- A two-valued item whose rule lists the holding value first: 0 holds, 1 does not (R191). -/
def firstIfTrue (x : Bool) : List Byte := u8 (if x then 0 else 1)

/-- The number two bytes carry. -/
def word (high low : Byte) : Nat := high.toNat * 256 + low.toNat

/-- The signed number two bytes carry. -/
def signedWord (high low : Byte) : Int :=
  if word high low < 32768 then word high low else (word high low : Int) - 65536

/-! ## Payload forms (R190) -/

/-- A payload of one byte. -/
def parse1 : List Byte → Option Nat
  | [x] => some x.toNat
  | _ => none

/-- A payload of no byte. -/
def parse0 : List Byte → Option Unit
  | [] => some ()
  | _ => none

/-- A payload of one two-byte number. -/
def parse2 : List Byte → Option Nat
  | [x, y] => some (word x y)
  | _ => none

/-- A payload of one signed two-byte number. -/
def parseSigned2 : List Byte → Option Int
  | [x, y] => some (signedWord x y)
  | _ => none

/-- An optional signed number at the front of a payload, and what follows it. -/
def takeOptional : List Byte → Option (Option Int × List Byte)
  | [] => none
  | p :: rest =>
    if p.toNat = 0 then some (none, rest)
    else if p.toNat = 1 then
      match rest with
      | x :: y :: rest => some (some (signedWord x y), rest)
      | _ => none
    else none

/-- `n` elements of `width` bytes each, and nothing after them. -/
def parseElements {α : Type} (width : Nat) (p : List Byte → Option α) : Nat → List Byte → Option (List α)
  | 0, [] => some []
  | 0, _ :: _ => none
  | n + 1, bytes =>
    if bytes.length < width then none
    else
      match p (bytes.take width), parseElements width p n (bytes.drop width) with
      | some x, some xs => some (x :: xs)
      | _, _ => none

/-- A list: its count byte, then its elements. -/
def parseList {α : Type} (width : Nat) (p : List Byte → Option α) : List Byte → Option (List α)
  | [] => none
  | n :: rest => parseElements width p n.toNat rest

/-- LENS_MOVE_TO and LENS_MOVE_BY (R118): tag, H field or absent, V field or absent. -/
def parseLensMove : List Byte → Option (Byte × PerAxis (Option Int))
  | [] => none
  | tag :: rest =>
    match takeOptional rest with
    | none => none
    | some (h, rest) =>
      match takeOptional rest with
      | some (v, []) => some (tag, { h := h, v := v })
      | _ => none

/-- LENS_HOME (R118): tag and the list of named axes. An index that is no axis's does not fit the form: the model's choice
(notes/assumptions/5.md). -/
def parseLensHome : List Byte → Option (Byte × List AxisId)
  | [] => none
  | tag :: rest =>
    match parseList 1 (fun x => (parse1 x).bind AxisId.ofIndex) rest with
    | some axes => some (tag, axes)
    | none => none

/-- LENS_RECALL (R118): tag and preset number. -/
def parseLensRecall : List Byte → Option (Byte × Nat)
  | [tag, n] => some (tag, n.toNat)
  | _ => none

/-- LENS_STOP and LENS_BACK (R118): a tag. -/
def parseTag : List Byte → Option Byte
  | [tag] => some tag
  | _ => none

/-- FAN_FORCE (R46): fan and duty. -/
def parseFanForce : List Byte → Option (Nat × Nat)
  | [f, x, y] => some (f.toNat, word x y)
  | _ => none

/-- MESH_PEEK (R171): first node and count. -/
def parseMeshPeek : List Byte → Option (Nat × Nat)
  | [first, count] => some (first.toNat, count.toNat)
  | _ => none

/-- STORE_WRITE (R180): field code, index, and the value bytes. -/
def parseStoreWrite : List Byte → Option (Byte × Byte × List Byte)
  | code :: index :: value => some (code, index, value)
  | _ => none

/-- STORE_READ (R186): record, field code, index, source. -/
def parseStoreRead : List Byte → Option (Nat × Byte × Byte × Nat)
  | [record, code, index, source] => some (record.toNat, code, index, source.toNat)
  | _ => none

/-- The fans a request names by one byte: F0 to F3, or 4 for ALL (R45, R47; coded by R191). -/
def parseFans (n : Nat) : Option (List FanId) :=
  match FanId.ofIndex n with
  | some f => some [f]
  | none => if n = 4 then some FanId.list else none

/-- A keystone's form byte and values as SET_KEYSTONE and the store carry them (R140, store field table), and what
follows; `none` where the bytes do not fit. -/
inductive KeystoneBytes where
  | fits (keystone : Keystone) (rest : List Byte)
  | badForm
  | misfit

def takeKeystone : List Byte → KeystoneBytes
  | [] => .misfit
  | form :: rest =>
    if form.toNat = 0 then
      match rest with
      | x0 :: x1 :: y0 :: y1 :: rest => .fits (.slope (signedWord x0 x1) (signedWord y0 y1)) rest
      | _ => .misfit
    else if form.toNat = 1 then
      match rest with
      | a0 :: a1 :: b0 :: b1 :: c0 :: c1 :: d0 :: d1 :: e0 :: e1 :: f0 :: f1 :: g0 :: g1 :: h0 :: h1 :: rest =>
        .fits (.corners ⟨signedWord a0 a1, signedWord b0 b1⟩ ⟨signedWord c0 c1, signedWord d0 d1⟩
          ⟨signedWord e0 e1, signedWord f0 f1⟩ ⟨signedWord g0 g1, signedWord h0 h1⟩) rest
      | _ => .misfit
    else .badForm

/-- A keystone's bytes. -/
def Keystone.bytes : Keystone → List Byte
  | .slope kv kh => u8 0 ++ i16 kv ++ i16 kh
  | .corners tl tr br bl =>
    u8 1 ++ i16 tl.dx ++ i16 tl.dy ++ i16 tr.dx ++ i16 tr.dy ++ i16 br.dx ++ i16 br.dy ++ i16 bl.dx ++ i16 bl.dy

/-! ## Codes of enumerated values (R191) -/

def Orientation.code : Orientation → Nat
  | .table => 0
  | .ceiling => 1

def OrientationSource.code : OrientationSource → Nat
  | .strap => 0
  | .table => 1
  | .ceiling => 2

def FanState.code : FanState → Nat
  | .off => 0
  | .spinup => 1
  | .running => 2
  | .kick => 3
  | .failed => 4
  | .test => 5

def Profile.code : Profile → Nat
  | .quiet => 0
  | .standard => 1
  | .high => 2

def Profile.ofCode : Nat → Option Profile
  | 0 => some .quiet
  | 1 => some .standard
  | 2 => some .high
  | _ => none

def TestResult.code : TestResult → Nat
  | .notTested => 0
  | .skipped => 1
  | .pass => 2
  | .fail => 3
  | .incomplete => 4

def TestOutcome.code : TestOutcome → Nat
  | .running => 0
  | .complete => 1
  | .aborted => 2

def TestCause.code : TestCause → Nat
  | .lightOn => 0
  | .emergency => 1

def Regime.code : Regime → Nat
  | .normal => 0
  | .protect => 1
  | .emergency => 2

/-- R61, R191: the causes of a change of regime by their places in the table of R61, read row by row. FAN_FAILED and RECIRCULATION,
which it names twice, keep their first places, and the second naming takes up no place: the model's choice (notes/assumptions/5.md). -/
def Cause.code : Cause → Nat
  | .critical => 0
  | .fanFailed => 1
  | .thermalRunaway => 2
  | .ackTimeout => 3
  | .overdrive => 4
  | .linkLost => 5
  | .sensorFault => 6
  | .warning => 7
  | .recirculation => 8
  | .cooled => 9
  | .clearedByHost => 10

/-- The item "last run-on end" of R53. -/
def RunOnEnd.code : RunOnEnd → Nat
  | .none => 0
  | .temperature => 1
  | .timeLimit => 2

/-- The cause of COOLDOWN_DONE, whose list in R73 starts with TEMPERATURE. -/
def RunOnEnd.causeCode : RunOnEnd → Nat
  | .timeLimit => 1
  | _ => 0

def SensorCause.code : SensorCause → Nat
  | .outOfRange => 0
  | .markedInvalid => 1
  | .linkNotUp => 2
  | .recovered => 3
  | .absent => 4

def LinkState.code : LinkState → Nat
  | .down => 0
  | .up => 1
  | .lost => 2

def LinkCause.code : LinkCause → Nat
  | .advertAccepted => 0
  | .readvertised => 1
  | .telemetryTimeout => 2

/-- The reason byte of ADVERT_REJECT (frame table of R76). -/
def RejectReason.code : RejectReason → Nat
  | .minDrive => 1
  | .levelRange => 2
  | .levelOrder => 3
  | .runOn => 4
  | .thermalCount => 5

def AxisState.code : AxisState → Nat
  | .unreferenced => 0
  | .homing => 1
  | .idle => 2
  | .energising => 3
  | .moving => 4
  | .suspended => 5
  | .fault => 6

def HoldLevel.code : HoldLevel → Nat
  | .full => 0
  | .reduced => 1
  | .released => 2

def HomeOrigin.code : HomeOrigin → Nat
  | .start => 0
  | .request => 1

def HomeResult.code : HomeResult → Nat
  | .ok => 0
  | .failed => 1
  | .stopped => 2

def HomeCause.code : HomeCause → Nat
  | .notFound => 0
  | .endstopStuck => 1

def SlipCause.code : SlipCause → Nat
  | .inMotion => 0
  | .atRest => 1

def SwapCause.code : SwapCause → Nat
  | .frameSync => 0
  | .burstEnd => 1
  | .syncAbsent => 2

def BankState.code : BankState → Nat
  | .live => 0
  | .spare => 1
  | .building => 2
  | .ready => 3

def OverrangeMode.code : OverrangeMode → Nat
  | .clamp => 0
  | .digital => 1

def OverrangeMode.ofCode : Nat → Option OverrangeMode
  | 0 => some .clamp
  | 1 => some .digital
  | _ => none

def DriftMode.code : DriftMode → Nat
  | .off => 0
  | .motor => 1
  | .digital => 2

def DriftMode.ofCode : Nat → Option DriftMode
  | 0 => some .off
  | 1 => some .motor
  | 2 => some .digital
  | _ => none

def Origin.code : Origin → Nat
  | .moveTo => 0
  | .moveBy => 1
  | .home => 2
  | .recall => 3
  | .back => 4

def LensOutcome.code : LensOutcome → Nat
  | .ok => 0
  | .clamped => 1
  | .stopped => 2
  | .slipped => 3
  | .notReferenced => 4
  | .axisFault => 5
  | .historyEmpty => 6

def AxisAnswer.outcome : AxisAnswer → LensOutcome
  | .ok => .ok
  | .stopped => .stopped
  | .slipped => .slipped
  | .notReferenced => .notReferenced
  | .axisFault => .axisFault

/-- Record numbers of the store requests: 0 INSTALL, 1 WORKING, 2 to 11 presets 0 to 9. -/
def RecordId.number : RecordId → Nat
  | .install => 0
  | .working => 1
  | .preset n => n.val + 2

def RecordId.ofNumber (n : Nat) : Option RecordId :=
  if n = 0 then some .install
  else if n = 1 then some .working
  else if h : n < 12 then some (.preset ⟨n - 2, by omega⟩)
  else none

/-- The statuses of R190. -/
inductive Status where
  | ok | okClamped | accepted | busy | storeBusy | locked | invalid | empty | conditions | starting | unknownKind
  deriving DecidableEq, Repr

def Status.code : Status → Nat
  | .ok => 0x00
  | .okClamped => 0x01
  | .accepted => 0x02
  | .busy => 0x10
  | .storeBusy => 0x11
  | .locked => 0x12
  | .invalid => 0x13
  | .empty => 0x14
  | .conditions => 0x15
  | .starting => 0x16
  | .unknownKind => 0x17

/-- The refusal reasons of R191. -/
inductive Reason where
  | frame | form | noStage | noField | range | curveOrder | thresholdOrder | motorThresholdOrder | vRelease
  | notInEmergency | warning | fanFailed | linkNotUp | notReferenced | regime | runOn | axis | lens | drift | mesh
  | store | fanTest
  deriving DecidableEq, Repr

def Reason.code : Reason → Nat
  | .frame => 0x01
  | .form => 0x02
  | .noStage => 0x03
  | .noField => 0x04
  | .range => 0x05
  | .curveOrder => 0x06
  | .thresholdOrder => 0x07
  | .motorThresholdOrder => 0x08
  | .vRelease => 0x09
  | .notInEmergency => 0x0A
  | .warning => 0x0B
  | .fanFailed => 0x0C
  | .linkNotUp => 0x0D
  | .notReferenced => 0x0E
  | .regime => 0x0F
  | .runOn => 0x10
  | .axis => 0x11
  | .lens => 0x12
  | .drift => 0x13
  | .mesh => 0x14
  | .store => 0x15
  | .fanTest => 0x16

/-- A refusal's reasons: a list of their codes (R190). -/
def reasonBytes (rs : List Reason) : List Byte := listBytes (fun r => u8 r.code) rs

/-- The request kinds (R190), each by its code. -/
inductive Kind where
  | fetch | status | readEvents | readCounters | rest | restart | setLightMode | setAcoustic | fanForce | fanRelease
  | fanTest | clearFan | clearEmergency | lensMoveTo | lensMoveBy | lensHome | lensStop | lensRecall | lensBack
  | setOverrange | setDriftMode | setKeystone | setZoom | meshPeek | storeOpen | storeWrite | storeCommit
  | storeAbandon | storeRead
  deriving DecidableEq, Repr

def Kind.code : Kind → Byte
  | .fetch => 0x00#8
  | .status => 0x01#8
  | .readEvents => 0x02#8
  | .readCounters => 0x03#8
  | .rest => 0x04#8
  | .restart => 0x05#8
  | .setLightMode => 0x10#8
  | .setAcoustic => 0x11#8
  | .fanForce => 0x12#8
  | .fanRelease => 0x13#8
  | .fanTest => 0x14#8
  | .clearFan => 0x15#8
  | .clearEmergency => 0x16#8
  | .lensMoveTo => 0x20#8
  | .lensMoveBy => 0x21#8
  | .lensHome => 0x22#8
  | .lensStop => 0x23#8
  | .lensRecall => 0x24#8
  | .lensBack => 0x25#8
  | .setOverrange => 0x26#8
  | .setDriftMode => 0x27#8
  | .setKeystone => 0x30#8
  | .setZoom => 0x31#8
  | .meshPeek => 0x32#8
  | .storeOpen => 0x40#8
  | .storeWrite => 0x41#8
  | .storeCommit => 0x42#8
  | .storeAbandon => 0x43#8
  | .storeRead => 0x44#8

/-! ## Event kinds and details (R193 and the rules that raise them) -/

/-- The kind code of an event. -/
def Event.kind : Event → Nat
  | .regimeChanged .. => 0x01
  | .sensorFault .. => 0x02
  | .fanFault .. => 0x03
  | .fanTestDone .. => 0x04
  | .overrideCleared .. => 0x05
  | .ceilingChanged .. => 0x06
  | .linkChanged .. => 0x07
  | .cooldownDone .. => 0x08
  | .lensDone .. => 0x09
  | .homeDone .. => 0x0A
  | .slip .. => 0x0B
  | .motionHeld .. => 0x0C
  | .meshLive .. => 0x0D
  | .shiftClipped .. => 0x0E
  | .storeDone .. => 0x0F
  | .woke .. => 0x10

/-- The flags byte of the scaler window (R160): bit 0 IDENTITY, bit 1 SHIFT_CLIPPED. -/
def Header.flags (h : Header) : Nat := (if h.identity then 1 else 0) + (if h.clipped then 2 else 0)

def OutcomeEntry.bytes (e : OutcomeEntry) : List Byte :=
  [e.tag] ++ u8 e.origin.code ++ u8 e.outcome.code ++ optBytes (fun o => u8 o.code) e.axes.h
    ++ optBytes (fun o => u8 o.code) e.axes.v

/-- The effect of a MOTION_HELD on one axis (R112). The effect stands for the presence byte of the target that follows a suspended move:
the model's choice (notes/assumptions/5.md). -/
def HoldEffect.bytes : HoldEffect → List Byte
  | .suspendedMove t => u8 0 ++ i16 t
  | .keptHome => u8 1
  | .nothing => u8 2

/-- The detail bytes of an event, its fields in the order in which the raising rule names them. Three points are the
model's choice (notes/assumptions/5.md): the cause of OVERRIDE_CLEARED has the code of the regime, the two fields of a loss in
LINK_CHANGED have one presence byte for the pair, and the cause of WOKE stands for the presence byte of its channel or regime. -/
def Event.bytes : Event → List Byte
  | .regimeChanged p n c => u8 p.code ++ u8 n.code ++ u8 c.cause.code ++ optBytes u8 c.index
  | .sensorFault c f why => u8 c.index ++ firstIfTrue f ++ u8 why.code
  | .fanFault f n => u8 f.index ++ u8 n ++ u8 0
  | .fanTestDone o c n => u8 o.code ++ optBytes (fun c => u8 c.code) c ++ u8 n
  | .overrideCleared fs c => listBytes (fun f => u8 f.index) fs ++ u8 c.code
  | .ceilingChanged p n at_ => optBytes u16 p ++ optBytes u16 n ++ optBytes u16 at_
  | .linkChanged p n c loss =>
    u8 p.code ++ u8 n.code ++ u8 c.code ++ optBytes (fun l => u16 l.1 ++ flag l.2) loss
  | .cooldownDone c n => u8 c.causeCode ++ u16 n
  | .lensDone e b => e.bytes ++ optBytes i16 b.h ++ optBytes i16 b.v
  | .homeDone a r c o => u8 a.index ++ u8 r.code ++ optBytes (fun c => u8 c.code) c ++ u8 o.code
  | .slip a c p n => u8 a.index ++ u8 c.code ++ u16 p ++ u8 n
  | .motionHeld held s5 e => firstIfTrue held ++ i16 s5 ++ e.h.bytes ++ e.v.bytes
  | .meshLive h c =>
    u8 h.bank.code ++ u16 h.seq ++ u8 h.orientation.code ++ u8 h.flags ++ u8 h.outsideCount ++ u8 c.code
  | .shiftClipped r a => i16 r.x ++ i16 r.y ++ i32 a.x ++ i32 a.y
  | .storeDone r ok n => u8 r.number ++ firstIfTrue ok ++ u8 n
  | .woke (.temperature c) => u8 0 ++ u8 c.index
  | .woke (.regime r) => u8 1 ++ u8 r.code
  | .woke .lightOn => u8 2

/-- One entry of a READ_EVENTS payload (R190): kind code, count, detail length, detail. -/
def QueueEntry.bytes (q : QueueEntry) : List Byte :=
  u8 q.detail.kind ++ u8 q.count ++ u8 q.detail.bytes.length ++ q.detail.bytes

/-- A response frame (R190). -/
def Response.bytes (r : Response) : List Byte := u8 r.status ++ [r.kind] ++ u8 r.payload.length ++ r.payload

/-! ## Light-engine frames (R75, R76) -/

/-- One step of the CRC-8 over x⁸ + x² + x + 1, most significant bit first: eight shifts of one byte already taken into the
register. -/
def crcShift : Nat → Byte → Byte
  | 0, c => c
  | n + 1, c => crcShift n (if c.msb then (c <<< 1) ^^^ 0x07#8 else c <<< 1)

/-- R75: the CRC-8 of a run of bytes, initial value 0, no final inversion. -/
def crc8 (bytes : List Byte) : Byte := bytes.foldl (fun c x => crcShift 8 (c ^^^ x)) 0x00#8

/-- A whole frame: start byte, kind, length, payload, CRC-8 over kind, length and payload. -/
def frameBytes (kind : Byte) (payload : List Byte) : List Byte :=
  let body := [kind] ++ u8 payload.length ++ payload
  [0xA5#8] ++ body ++ [crc8 body]

/-- The bytes of a frame LEL sends (frame table of R76). -/
def TxFrame.bytes : TxFrame → List Byte
  | .solicit => frameBytes 0x01#8 []
  | .advertReply => frameBytes 0x02#8 (u16 50 ++ u8 1)
  | .advertReject r => frameBytes 0x03#8 (u8 r.code)
  | .notice n t r => frameBytes 0x04#8 (u16 n ++ u8 (if t then 1 else 0) ++ u8 r.code)

/-- A thermal value of TELEMETRY: 8000h is the invalid marker. -/
def thermalValue (high low : Byte) : Option Temp :=
  if word high low = 0x8000 then none else some (signedWord high low)

/-- The fields of a TELEMETRY payload of 7 bytes. -/
def parseTelemetry : List Byte → Option TelemetryFrame
  | [d0, d1, e, a0, a1, b0, b1] =>
    some { drive := word d0 d1, echo := e, first := thermalValue a0 a1, second := thermalValue b0 b1 }
  | _ => none

/-- The fields of an ADVERT payload of 6 + 2 × L bytes. -/
def parseAdvert : List Byte → Option AdvertFrame
  | m0 :: m1 :: r0 :: r1 :: t :: l :: rest =>
    match parseElements 2 parse2 l.toNat rest with
    | some levels => some { minDrive := word m0 m1, minRunOn := word r0 r1, thermals := t.toNat, levels := levels }
    | none => none
  | _ => none

/-- R76: what the receiver does with one more byte of a frame in collection. -/
inductive Received where
  /-- The byte is stored and the collection goes on. -/
  | more
  /-- The frame is discarded as a frame error. -/
  | faulty
  /-- The frame is complete. -/
  | advert (frame : AdvertFrame)
  | telemetry (frame : TelemetryFrame)

/-- R76: the lengths a kind may have: 7 for TELEMETRY; 6, 8, 10 … 22 for ADVERT. -/
def lengthFits (kind : Byte) (len : Nat) : Bool :=
  if kind = 0x12#8 then len == 7 else 6 ≤ len && len ≤ 22 && len % 2 == 0

/-- R76's range checks on a TELEMETRY: drive at most 1000, echo 0, 1 or FFh. -/
def TelemetryFrame.sound (f : TelemetryFrame) : Bool :=
  f.drive ≤ 1000 && (f.echo == 0x00#8 || f.echo == 0x01#8 || f.echo == 0xFF#8)

/-- R76: the judgement on the bytes stored since the start byte, the newest last. An ADVERT whose length is not 6 + 2 × L, and a
TELEMETRY with a drive above 1000 or another echo, are discarded at the CRC byte: the model's choice (notes/assumptions/42.md). -/
def judgeFrame : List Byte → Received
  | [] => .more
  | [kind] => if kind = 0x11#8 || kind = 0x12#8 then .more else .faulty
  | [kind, len] => if lengthFits kind len.toNat then .more else .faulty
  | kind :: len :: rest =>
    if rest.length ≤ len.toNat then .more
    else
      let payload := rest.take len.toNat
      if rest.drop len.toNat ≠ [crc8 (kind :: len :: payload)] then .faulty
      else if kind = 0x12#8 then
        match parseTelemetry payload with
        | some f => if f.sound then .telemetry f else .faulty
        | none => .faulty
      else
        match parseAdvert payload with
        | some f => .advert f
        | none => .faulty

end Sys2Proof.Machine
end

