-- ==== Sys2Proof/Machine/Ops.lean ====
section
/-! DEFINITION. The operations every block shares: rounding, saturating counts, the clock, raising an event (R193), answering
a host request (R190), and the frame every command's meaning runs in. -/

namespace Sys2Proof.Machine

/-! ## Arithmetic -/

/-- The whole number nearest n / d, a value exactly halfway rounded up (R20, R33, R145, R152). -/
def roundHalfUp (n : Int) (d : Nat) : Int := (2 * n + d) / (2 * d)

/-- The whole number nearest n / d, a value exactly halfway rounded away from zero (R131, R147). -/
def roundHalfAway (n : Int) (d : Nat) : Int := if 0 ≤ n then roundHalfUp n d else -(roundHalfUp (-n) d)

/-- A value limited to low … high. -/
def clampTo (low high x : Int) : Int := max low (min high x)

/-- One more, saturating at 255 (R195). -/
def satSucc (n : Nat) : Nat := min 255 (n + 1)

/-! ## The clock -/

/-- The expiry of a timer: the clock stands at least at the timer's instant (notes/assumptions/1.md). -/
def State.clockTo (due : Nat) (s : State) : State := { s with now := max s.now due }

/-- The expiry of a timer. A timer that is stopped does not expire. -/
def State.expire (timer : Option Nat) (effect : State → State) (s : State) : State :=
  match timer with
  | some due => effect (s.clockTo due)
  | none => s

/-- The time left to an instant, in ms. -/
def State.leftTo (due : Nat) (s : State) : Nat := due - s.now

/-! ## Events -/

/-- R193: an occurrence is counted in the entry of its kind, which keeps its place and takes the new detail, or makes a
new entry at the newest end. -/
def insertEvent (e : Event) : List QueueEntry → List QueueEntry
  | [] => [{ count := 1, detail := e }]
  | q :: rest =>
    if q.detail.kind = e.kind then { count := satSucc q.count, detail := e } :: rest else q :: insertEvent e rest

/-- Raises one occurrence of an event into the queue (R193). -/
def State.raise (e : Event) (s : State) : State :=
  { s with hli := { s.hli with queue := insertEvent e s.hli.queue } }

/-- Raises several occurrences in order. -/
def State.raiseAll (es : List Event) (s : State) : State := es.foldl (fun s e => s.raise e) s

/-! ## Answers -/

/-- The answer to a request becomes the response buffer (R190). -/
def State.respondTo (kind : Byte) (status : Status) (payload : List Byte) (s : State) : State :=
  { s with hli := { s.hli with response := { status := status.code, kind := kind, payload := payload } } }

def State.respond (kind : Kind) (status : Status) (payload : List Byte) (s : State) : State :=
  s.respondTo kind.code status payload

/-- A refusal with its reasons (R190). -/
def State.refuse (kind : Kind) (status : Status) (reasons : List Reason) (s : State) : State :=
  s.respond kind status (reasonBytes reasons)

/-- R190 step 4: a payload that does not fit the form of its kind is refused with INVALID and the reason FORM, and the
request changes nothing; one that fits goes to the owning block. -/
def State.withForm {α : Type} (kind : Kind) (fields : Option α) (act : α → State → State) (s : State) : State :=
  match fields with
  | some x => act x s
  | none => s.refuse kind .invalid [.form]

/-! ## Reading the parameters in force -/

def State.fanParams (s : State) (f : FanId) : FanParams := s.cfg.params.fans.get f

def State.axisParams (s : State) (a : AxisId) : AxisParams := s.cfg.params.axes.get a

def State.chanParams (s : State) (c : Chan) : ChannelParams := s.cfg.params.channels.get c

def State.channel (s : State) (c : Chan) : Channel := s.sen.channels.get c

def State.axis (s : State) (a : AxisId) : Axis := s.axc.axes.get a

def State.fanOf (s : State) (f : FanId) : Fan := s.fan.fans.get f

/-- R26, R21: the working value of a present channel: the value handed on at the last sample point, or the warning
threshold in force where the channel has had none. An absent channel has none. -/
def State.working (s : State) (c : Chan) : Option Temp :=
  let ch := s.channel c
  if ch.present then
    match ch.handed with
    | some (t, _) => some t
    | none => some (s.chanParams c).warning
  else none

/-- R26: the quality handed on with a channel's working value. -/
def State.quality (s : State) (c : Chan) : Quality :=
  match (s.channel c).handed with
  | some (_, q) => q
  | none => .unknown

/-- The present channels with their working values, in ascending order. -/
def State.workingValues (s : State) : List (Chan × Temp) :=
  Chan.list.filterMap (fun c => (s.working c).map (fun t => (c, t)))

/-! ## The frame of a command -/

/-- A command's meaning: while RESET_n is low the part holds its reset state, and the command does only what `inReset` says
(notes/assumptions/4.md); otherwise it has its effect. No command faults. -/
def State.performIn (inReset effect : State → State) (s : State) : Host.Outcome State Fault Refusal :=
  if s.inReset then .next (inReset s) else .next (effect s)

/-- The same for a command that does nothing while RESET_n is low. -/
def State.perform (effect : State → State) (s : State) : Host.Outcome State Fault Refusal := s.performIn id effect

end Sys2Proof.Machine
end

