-- ==== Sys2Proof/Machine/Flags.lean ====
section
/-! DEFINITION. The output lines and conditions the blocks' states fix: ATTN, READY, LIGHT_INHIBIT, ILEV, FPWM, and the marks that
follow from them. Each has its one home in State and is read here. -/

namespace Sys2Proof.Machine

/-- R194: ATTN is asserted while the event queue holds at least one entry. -/
def State.attn (s : State) : Bool := !s.hli.queue.isEmpty

/-- R196: READY, deasserted while RESET_n is low. -/
def State.readyLine (s : State) : Bool := s.hli.ready && !s.inReset

/-- R90: whether the acknowledged ceiling is above 0. -/
def State.ackAboveZero (s : State) : Bool :=
  match s.lel.ack with
  | some a => 0 < a
  | none => false

/-- R90: LIGHT_INHIBIT is deasserted only while the link is UP with an acknowledged ceiling above 0 and the regime is not
EMERGENCY. -/
def State.lightInhibit (s : State) : Bool :=
  !(s.lel.st == .up && s.ackAboveZero && s.tsv.regime != .emergency)

/-- R92: the failing conditions of LIGHT_INHIBIT, in the order of R90. That STATUS sends them as a list, and the codes 0 the
link, 1 the acknowledged ceiling, 2 the regime, are the model's choice (notes/assumptions/5.md). -/
def State.inhibitReasons (s : State) : List Nat :=
  (if s.lel.st == .up then [] else [0]) ++ (if s.ackAboveZero then [] else [1])
    ++ (if s.tsv.regime != .emergency then [] else [2])

/-- R35, R113: the three states that count as motion for the fans. -/
def AxisState.inMotion : AxisState → Bool
  | .energising => true
  | .moving => true
  | .homing => true
  | _ => false

/-- The levels of ILEV (R95). -/
inductive CurrentLevel where
  | full | reduced | off
  deriving DecidableEq, Repr

/-- R95: ILEV of an axis. The hold level of an axis in motion is the current it moves with. -/
def Axis.ilev (x : Axis) : CurrentLevel :=
  match x.hold with
  | .full => .full
  | .reduced => .reduced
  | .released => .off

/-- ILEV of one axis. While RESET_n is low it is OFF for H and REDUCED for V (R95), which are the resting levels the axes
then hold. -/
def State.ilev (s : State) (a : AxisId) : CurrentLevel := (s.axis a).ilev

/-- The PWM duty on FPWM0 to FPWM3: the fan's commanded duty. -/
def State.fpwm (s : State) (f : FanId) : Nat := (s.fanOf f).duty

/-- R87: a reduction is pending while the link is UP, the acknowledged ceiling is a value, and N is below it. -/
def LelBlock.reductionPending (l : LelBlock) : Bool :=
  l.st == .up &&
    match l.ack, l.n with
    | some a, some n => n < a
    | _, _ => false

/-- R48: the light source is reported on: the link is UP and the last TELEMETRY accepted since it became UP reported a
drive above 0. -/
def State.lightReportedOn (s : State) : Bool := s.lel.st == .up && 0 < s.lel.drive

end Sys2Proof.Machine
end

