-- ==== Sys2Proof/Machine/Geometry.lean ====
section
/-! DEFINITION. The geometry unit and the start of a mesh build (R139 to R149, R155): stages 1 to 4, with every coordinate
an exact whole number of 1/1024 pixel. -/

namespace Sys2Proof.Machine

/-- The four corner displacements of stage 1 (R145). -/
structure Displacements where
  tl : Corner
  tr : Corner
  br : Corner
  bl : Corner
  deriving DecidableEq, Repr

/-- R145: stage 1. -/
def Keystone.displacements : Keystone → Displacements
  | .corners tl tr br bl => { tl := tl, tr := tr, br := br, bl := bl }
  | .slope kv kh =>
    let top := if 0 < kv then roundHalfUp (kv * 1920) 1000 else 0
    let bottom := if kv < 0 then roundHalfUp (-kv * 1920) 1000 else 0
    let right := if 0 < kh then roundHalfUp (kh * 1080) 1000 else 0
    let left := if kh < 0 then roundHalfUp (-kh * 1080) 1000 else 0
    { tl := { dx := top, dy := left }, tr := { dx := top, dy := right }, br := { dx := bottom, dy := right },
      bl := { dx := bottom, dy := left } }

def Corner.isZero (c : Corner) : Bool := c.dx == 0 && c.dy == 0

def Displacements.isZero (d : Displacements) : Bool := d.tl.isZero && d.tr.isZero && d.br.isZero && d.bl.isZero

/-- R146, stage 3: a whole-pixel point zoomed about the panel centre, in 1/1024 pixel. -/
def zoomPoint (z : Nat) (x y : Int) : Point :=
  { x := 1920 * 1024 + (x - 1920) * z, y := 1080 * 1024 + (y - 1080) * z }

/-- R146: stages 2 and 3. -/
def zoomedQuad (d : Displacements) (z : Nat) : Quad :=
  { tl := zoomPoint z d.tl.dx d.tl.dy, tr := zoomPoint z (3840 - d.tr.dx) d.tr.dy,
    br := zoomPoint z (3840 - d.br.dx) (2160 - d.br.dy), bl := zoomPoint z d.bl.dx (2160 - d.bl.dy) }

def Quad.minX (q : Quad) : Int := min (min q.tl.x q.tr.x) (min q.br.x q.bl.x)
def Quad.maxX (q : Quad) : Int := max (max q.tl.x q.tr.x) (max q.br.x q.bl.x)
def Quad.minY (q : Quad) : Int := min (min q.tl.y q.tr.y) (min q.br.y q.bl.y)
def Quad.maxY (q : Quad) : Int := max (max q.tl.y q.tr.y) (max q.br.y q.bl.y)

def Point.add (p q : Point) : Point := { x := p.x + q.x, y := p.y + q.y }

def Quad.translate (q : Quad) (d : Point) : Quad :=
  { tl := q.tl.add d, tr := q.tr.add d, br := q.br.add d, bl := q.bl.add d }

/-- R147: the requested shift in whole pixels: each product rounded before the sign of the shift down is applied. -/
def requestedShift (residual : PerAxis Int) (pps : PerAxis Nat) : Point :=
  { x := roundHalfAway (residual.h * pps.h) 256, y := -(roundHalfAway (residual.v * pps.v) 256) }

/-- R147: the requested shift clamped so that the quad stays on the panel, in 1/1024 pixel. -/
def appliedShift (q : Quad) (requested : Point) : Point :=
  { x := clampTo (-q.minX) (3840 * 1024 - q.maxX) (requested.x * 1024),
    y := clampTo (-q.minY) (2160 * 1024 - q.maxY) (requested.y * 1024) }

/-- R144 to R147: one composition from the geometry inputs. -/
def composeInputs (keystone : Keystone) (zoom : Nat) (residual : PerAxis Int) (pps : PerAxis Nat) : Composition :=
  let d := keystone.displacements
  let q := zoomedQuad d zoom
  let requested := requestedShift residual pps
  let applied := appliedShift q requested
  { quad := q.translate applied, requested := requested, applied := applied,
    clipped := applied.x != requested.x * 1024 || applied.y != requested.y * 1024,
    identity := d.isZero && zoom == 1024 && applied == { x := 0, y := 0 } }

/-- The pixels per step of both axes in force, read from CFG at each composition (R139). -/
def State.pixelsPerStep (s : State) : PerAxis Nat := s.cfg.params.axes.map (fun p => p.pixelsPerStep)

/-- R144: GEO composes, and raises SHIFT_CLIPPED where the clamp changes the shift (R147). -/
def State.compose (s : State) : State :=
  let c := composeInputs s.geo.keystone s.geo.zoom s.geo.residual s.pixelsPerStep
  let s := { s with geo := { s.geo with comp := c } }
  if c.clipped then s.raise (.shiftClipped c.requested c.applied) else s

/-- R149: the snapshot of the geometry in force. -/
def State.snapshot (s : State) : Snapshot :=
  { comp := s.geo.comp, keystone := s.geo.keystone, zoom := s.geo.zoom, residual := s.geo.residual,
    pixelsPerStep := s.pixelsPerStep, orientation := s.cfg.orientation }

/-- R149, R155: a build starts into the bank that is not live, or the build in flight starts again on its own bank. -/
def State.startBuild (s : State) : State :=
  match s.mse.build with
  | some b => { s with mse := { s.mse with build := some { b with snapshot := s.snapshot } } }
  | none =>
    { s with
      mse := { s.mse with build := some { snapshot := s.snapshot, target := s.scp.live.other } }
      scp := s.scp.withState s.scp.live.other .building }

/-- R144: GEO takes a keystone and a zoom, composes, and starts a build where one of them changed. -/
def State.setGeometry (keystone : Keystone) (zoom : Nat) (s : State) : State :=
  let changed := s.geo.keystone != keystone || s.geo.zoom != zoom
  let s := { s with geo := { s.geo with keystone := keystone, zoom := zoom } }.compose
  if changed then s.startBuild else s

/-- R143: GEO takes the digital residuals of both axes as one change, composes and starts a build. -/
def State.setResiduals (residual : PerAxis Int) (s : State) : State :=
  { s with geo := { s.geo with residual := residual } }.compose.startBuild

/-- R140's table: a keystone's values clamped to their ranges. -/
def Corner.clamp (c : Corner) : Corner := { dx := clampTo 0 960 c.dx, dy := clampTo 0 540 c.dy }

def Keystone.clamp : Keystone → Keystone
  | .slope kv kh => .slope (clampTo (-300) 300 kv) (clampTo (-300) 300 kh)
  | .corners tl tr br bl => .corners tl.clamp tr.clamp br.clamp bl.clamp

/-- R176: a keystone every value of which lies in its range. -/
def Keystone.inRange (k : Keystone) : Bool := k.clamp == k

/-- R141: a zoom limited to 768 … 1024. -/
def clampZoom (z : Nat) : Nat := max 768 (min 1024 z)

end Sys2Proof.Machine
end

