-- ==== Sys2Proof/Machine/Fans.lean ====
section
/-! DEFINITION. The fan controller (R29 to R52): the sources of a fan's duty, the duty chain, stall episodes, the motion
allowance, the fan test, and what the fans do on a change of regime, on Rest and on a new installation record. -/

namespace Sys2Proof.Machine

/-! ## One fan -/

/-- The lowest duty of the running period takes in a duty commanded now (R42). A duty set at the instant that closes the
period is not counted, so the lowest duty of the instants before this one is kept beside it. -/
def Fan.noteDuty (now d : Nat) (x : Fan) : Fan :=
  if x.lowAt < now then { x with duty := d, low := min x.low d, lowBefore := x.low, lowAt := now }
  else { x with duty := d, low := min x.low d }

/-- R30: a fan is commanded a duty, and in OFF, SPINUP and RUNNING its state moves with it. -/
def Fan.command (now d : Nat) (x : Fan) : Fan :=
  if d = x.duty then x
  else
    let x := x.noteDuty now d
    match x.st with
    | .off =>
      if 0 < d then { x with st := .spinup, since := now, spinupDue := some (now + 2000), recovering := false } else x
    | .spinup | .running =>
      if d = 0 then
        { x with st := .off, since := now, spinupDue := none, stallRun := 0, attempts := 0, recovering := false }
      else x
    | .kick | .failed | .test => x

/-- R42, R43: a fan enters KICK, commanded 1000, with one more restart attempt; the chain's previous duty in the kick is the
duty commanded just before it. -/
def Fan.beginKick (now attempts : Nat) (x : Fan) : Fan :=
  { x.noteDuty now 1000 with
    st := .kick, since := now, attempts := attempts, stallRun := 0, recovering := true, spinupDue := none,
    kickDue := some (now + 1000), kickPrev := x.duty }

/-- The expected speed of R41 times 1000. -/
def FanParams.expected1000 (p : FanParams) (duty : Nat) : Nat := p.fullSpeed * duty

/-- R42, R43: a speed below half the expected speed at a duty. -/
def FanParams.slow (p : FanParams) (speed duty : Nat) : Bool := 2000 * speed < p.expected1000 duty

/-- R49: a speed outside the expected speed at a duty by more than a quarter. -/
def FanParams.outOfTolerance (p : FanParams) (speed duty : Nat) : Bool :=
  4 * speed * 1000 < 3 * p.expected1000 duty || 5 * p.expected1000 duty < 4 * speed * 1000

/-- R42: the checks of a period end on a fan that was RUNNING over the whole period. A fan that entered RUNNING in the very
instant in which the period began counts as one: the model's choice (notes/assumptions/35.md). -/
def Fan.stallCheck (now periodStart : Nat) (p : FanParams) (x : Fan) : Fan :=
  if x.st = .running ∧ x.since ≤ periodStart then
    if p.slow x.speed x.periodDuty then
      if 3 ≤ x.stallRun + 1 then Fan.beginKick now 1 { x with stallCount := satSucc x.stallCount }
      else { x with stallRun := x.stallRun + 1 }
    else { x with stallRun := 0 }
  else x

/-- R43: the recovery check of a period end on a fan that spent the whole period in a recovering SPINUP entered before it
began. -/
def Fan.recoveryCheck (now periodStart : Nat) (p : FanParams) (x : Fan) : Fan :=
  if x.st = .spinup ∧ x.recovering ∧ x.since < periodStart ∧ p.slow x.speed x.periodDuty = false then
    { x with st := .running, since := now, spinupDue := none, attempts := 0, recovering := false, stallRun := 0 }
  else x

/-- R41, R42: a fan at a period end: its measured speed over the period just ended, and the duty commanded over it. -/
def Fan.closePeriod (now periodLen : Nat) (x : Fan) : Fan :=
  { x with
    speed := min 65535 (x.pulses * 30000 / periodLen), pulses := 0,
    periodDuty := if x.lowAt = now then x.lowBefore else x.low }

/-- The lowest duty of the period that begins now. -/
def Fan.openPeriod (now : Nat) (x : Fan) : Fan := { x with low := x.duty, lowBefore := x.duty, lowAt := now }

/-! ## The duty chain (R31 to R37) -/

/-- R32: the governing temperature. -/
def State.governing (s : State) (p : FanParams) (curve : List Breakpoint) : Temp :=
  match p.governing.filterMap (fun e => (s.working e.channel).map (fun t => t + e.offset)) with
  | t :: rest => rest.foldl max t
  | [] => (curve.getLast?.map (fun b => b.temp)).getD 0

/-- R33: the duty on a segment between two breakpoints, a half rounded up. -/
def segmentDuty (p q : Breakpoint) (t : Temp) : Nat :=
  (roundHalfUp ((p.duty : Int) * (q.temp - p.temp) + (t - p.temp) * ((q.duty : Int) - p.duty)) (q.temp - p.temp).toNat).toNat

/-- R33: a curve read at a temperature above the breakpoint `p`. -/
def curveFrom (t : Temp) : Breakpoint → List Breakpoint → Nat
  | p, [] => p.duty
  | p, q :: rest => if t ≤ q.temp then segmentDuty p q t else curveFrom t q rest

def curveAt (t : Temp) : List Breakpoint → Nat
  | [] => 0
  | p :: rest => if t ≤ p.temp then p.duty else curveFrom t p rest

/-- R33: the curve in use: set T in TABLE, set C in CEILING (R4). -/
def FanParams.curve (p : FanParams) : Orientation → List Breakpoint
  | .table => p.curveT
  | .ceiling => p.curveC

/-- R32, R33: the curve duty of a fan. -/
def State.curveDuty (s : State) (p : FanParams) : Nat :=
  let curve := p.curve s.cfg.orientation
  let d := curveAt (s.governing p curve) curve
  if 0 < d ∧ d < p.minDuty then p.minDuty else d

/-- R8, R34: the cap in force for a fan and profile, never below the minimum running duty. -/
def FanParams.cap (p : FanParams) (profile : Profile) : Nat :=
  max p.minDuty (match profile with | .quiet => p.capQuiet | .standard => p.capStandard | .high => p.capHigh)

/-- R34: the cap limit: the cap, plus the motion allowance while it is active, at most 1000. -/
def State.capLimit (s : State) (f : FanId) : Nat :=
  let cap := (s.fanParams f).cap s.fan.profile
  min 1000 (if s.fan.allowance then cap + s.cfg.params.motionAllowance else cap)

/-- A duty moved toward a target, at once where it lies within the step. -/
def slewDown (step prev target : Nat) : Nat := if prev - target ≤ step then target else prev - step
def slewUp (step prev target : Nat) : Nat := if target - prev ≤ step then target else prev + step

/-- R36: the two range rules common to NORMAL and PROTECT. -/
def intoRange (minDuty prev target slewed : Nat) : Nat :=
  if prev = 0 ∧ 0 < target then minDuty
  else if target = 0 ∧ slewed < minDuty then 0
  else slewed

/-- R36: the last stages under NORMAL. -/
def chainNormal (minDuty capLimit curve prev : Nat) : Nat :=
  let target := min curve capLimit
  let slewed := if prev ≤ target then slewUp 50 prev target else slewDown 50 prev target
  min capLimit (intoRange minDuty prev target slewed)

/-- R37: the last stages under PROTECT: no cap, no slew upward, 100 per period downward. -/
def chainProtect (minDuty curve prev : Nat) : Nat :=
  intoRange minDuty prev curve (if prev ≤ curve then curve else slewDown 100 prev curve)

/-- R31: the chain of the regime in force. Under EMERGENCY its result reaches no fan; it is that of PROTECT
(notes/assumptions/8.md). -/
def State.chainResult (s : State) (f : FanId) (prev : Nat) : Nat :=
  let p := s.fanParams f
  match s.tsv.regime with
  | .normal => chainNormal p.minDuty (s.capLimit f) (s.curveDuty p) prev
  | .protect | .emergency => chainProtect p.minDuty (s.curveDuty p) prev

/-! ## Sources of a fan's duty (R30) -/

/-- R49: the duty of a test step. -/
def stepDuty (minDuty step : Nat) : Nat :=
  max minDuty (match step with | 0 => 300 | 1 => 600 | _ => 1000)

/-- R49: the step of the fan under test. -/
def State.testStep (s : State) : Nat :=
  match s.fan.test.run with
  | some r => r.step
  | none => 0

/-- R30: the duty a fan's source sets, `none` where the source is the duty chain. -/
def State.source (s : State) (f : FanId) : Option Nat :=
  let x := s.fanOf f
  if s.hli.rest then some 0
  else if x.st = .kick then some 1000
  else if x.st = .failed ∧ s.tsv.regime ≠ .normal then some 1000
  else if x.st = .test then some (stepDuty (s.fanParams f).minDuty s.testStep)
  else if s.tsv.regime = .emergency then some 1000
  else if s.tsv.regime = .normal then x.override
  else none

/-- A fan replaced. -/
def State.putFan (f : FanId) (x : Fan) (s : State) : State :=
  { s with fan := { s.fan with fans := s.fan.fans.set f x } }

/-- A fan is commanded a duty now. -/
def State.commandFan (f : FanId) (d : Nat) (s : State) : State := s.putFan f ((s.fanOf f).command s.now d)

/-- An action taken on F0 to F3 in order. -/
def State.eachFan (act : FanId → State → State) (s : State) : State := FanId.list.foldl (fun s f => act f s) s

/-- R36: under NORMAL, a fan whose duty the chain sets and whose commanded duty exceeds its cap limit is commanded the
limit at once. -/
def State.lowerFan (f : FanId) (s : State) : State :=
  if s.tsv.regime = .normal ∧ s.source f = none ∧ s.capLimit f < (s.fanOf f).duty then s.commandFan f (s.capLimit f) else s

def State.lowerToCaps (s : State) : State := s.eachFan State.lowerFan

/-- R30, R36: the duty a fan's source gives it when it is handed back to its source: the source's own duty, or, where the
chain is the source, the duty `kept`, lowered to the cap limit under NORMAL. -/
def State.handedBack (s : State) (f : FanId) (kept : Nat) : Nat :=
  match s.source f with
  | some d => d
  | none => if s.tsv.regime = .normal then min kept (s.capLimit f) else kept

/-- R31, R42: the chain of one fan at a period end. A fan in KICK keeps the chain's own result as its previous duty; any
other fan takes the result where the chain is its source. -/
def State.chainFan (restAtStart : Bool) (f : FanId) (s : State) : State :=
  let x := s.fanOf f
  if x.st = .kick then s.putFan f { x with kickPrev := s.chainResult f x.kickPrev }
  else if s.source f = none ∧ restAtStart = false then s.commandFan f (s.chainResult f x.duty)
  else s

/-- R31: the duty chain of every fan. A Rest in force at the start of the period end keeps the results unused (R40). -/
def State.dutyChain (restAtStart : Bool) (s : State) : State := s.eachFan (State.chainFan restAtStart)

/-- R41 to R43: measured speeds, stall checks and recovery checks of a period end. -/
def State.fanChecks (s : State) : State :=
  let check (f : FanId) (x : Fan) : Fan :=
    let x := x.closePeriod s.now s.tsv.periodLen
    let p := s.fanParams f
    if x.st = .running then x.stallCheck s.now s.tsv.periodStart p
    else x.recoveryCheck s.now s.tsv.periodStart p
  { s with fan := { s.fan with fans := s.fan.fans.mapWith check } }

/-- The next period begins for every fan. -/
def State.openFanPeriods (s : State) : State :=
  { s with fan := { s.fan with fans := s.fan.fans.mapWith (fun _ x => x.openPeriod s.now) } }

/-! ## Timers (R30, R42 to R44) -/

/-- R30, R43, R44: the SPINUP timer of a fan expires. -/
def State.spinupEnds (f : FanId) (s : State) : State :=
  let x := s.fanOf f
  if x.recovering then
    if x.attempts < 3 then s.putFan f (x.beginKick s.now (x.attempts + 1))
    else
      let s := s.putFan f { x with st := .failed, since := s.now, spinupDue := none, kickDue := none }
      let s := match s.source f with
        | some d => s.commandFan f d
        | none => s
      s.raise (.fanFault f x.stallCount)
  else s.putFan f { x with st := .running, since := s.now, spinupDue := none, stallRun := 0 }

/-- R42: the KICK timer of a fan expires: recovering SPINUP at the duty its source gives. -/
def State.kickEnds (f : FanId) (s : State) : State :=
  let x := s.fanOf f
  let s := s.putFan f
    { x with st := .spinup, since := s.now, kickDue := none, spinupDue := some (s.now + 2000), recovering := true }
  s.commandFan f (s.handedBack f x.kickPrev)

/-! ## Motion allowance (R35) -/

def State.anyInMotion (s : State) : Bool := s.axc.axes.h.st.inMotion || s.axc.axes.v.st.inMotion

/-- R35: an axis has entered ENERGISING, MOVING or HOMING. -/
def State.motionEntered (s : State) : State := { s with fan := { s.fan with allowance := true, tailDue := none } }

/-- R35: an axis has left them: with no axis left in motion the 2 s tail starts. -/
def State.motionLeft (s : State) : State :=
  if s.anyInMotion then s else { s with fan := { s.fan with tailDue := some (s.now + 2000) } }

/-- R35, R36: the tail expires. -/
def State.tailEnds (s : State) : State :=
  { s with fan := { s.fan with allowance := false, tailDue := none } }.lowerToCaps

/-! ## The fan test (R48 to R51) -/

def State.putTest (t : FanTest) (s : State) : State := { s with fan := { s.fan with test := t } }

def State.putTestRow (f : FanId) (r : TestRow) (s : State) : State :=
  s.putTest { s.fan.test with rows := s.fan.test.rows.set f r }

/-- The number of fans whose result is FAIL (R50). -/
def FanTest.failed (t : FanTest) : Nat := FanId.list.countP (fun f => (t.rows.get f).result = .fail)

/-- R49: a fan enters TEST and its first step begins. -/
def State.enterTest (f : FanId) (s : State) : State :=
  let x := s.fanOf f
  let s := s.putFan f
    { x with st := .test, since := s.now, spinupDue := none, kickDue := none, stallRun := 0, attempts := 0,
             recovering := false }
  let s := s.putTest { s.fan.test with run := some { fan := f, step := 0, start := s.now, pulses := 0 } }
  s.commandFan f (stepDuty (s.fanParams f).minDuty 0)

/-- R49, R50: the turns of the fans still to come begin: a FAILED fan is SKIPPED; with none left the test is complete. -/
def State.beginTurns : List FanId → State → State
  | [], s =>
    let t := { s.fan.test with run := none, outcome := some TestOutcome.complete, cause := none }
    (s.putTest t).raise (.fanTestDone .complete none t.failed)
  | f :: rest, s =>
    if (s.fanOf f).st = .failed then
      State.beginTurns rest (s.putTestRow f { s.fan.test.rows.get f with result := .skipped })
    else s.enterTest f

/-- R49, R51: the fan under test leaves TEST to RUNNING or OFF at the duty its source gives. -/
def State.leaveTest (f : FanId) (s : State) : State :=
  let x := s.fanOf f
  let s := s.putFan f { x with st := .running, since := s.now, stallRun := 0 }
  s.commandFan f (s.handedBack f x.duty)

/-- R49: a step's speed is recorded in the fan's row. -/
def TestRow.record (r : TestRow) (step speed : Nat) : TestRow :=
  match step with
  | 0 => { r with speed1 := some speed }
  | 1 => { r with speed2 := some speed }
  | _ => { r with speed3 := some speed }

/-- R49: the end of a test step: its speed recorded and judged, then the next step or the next fan's turn. -/
def State.testStepEnds (r : TestRun) (s : State) : State :=
  let f := r.fan
  let p := s.fanParams f
  let speed := min 65535 (r.pulses * 30)
  let bad := p.outOfTolerance speed (stepDuty p.minDuty r.step)
  let row := (s.fan.test.rows.get f).record r.step speed
  let row := if bad then { row with result := .fail } else row
  let x := s.fanOf f
  let s := s.putFan f { x with mismatch := if bad then satSucc x.mismatch else x.mismatch }
  if r.step < 2 then
    let s := s.putTestRow f row
    let s := s.putTest { s.fan.test with run := some { fan := f, step := r.step + 1, start := s.now, pulses := 0 } }
    s.commandFan f (stepDuty p.minDuty (r.step + 1))
  else
    let s := s.putTestRow f (if row.result = .fail then row else { row with result := .pass })
    State.beginTurns f.after (s.leaveTest f)

/-- R51: a running fan test is aborted. -/
def State.abortTest (cause : TestCause) (s : State) : State :=
  match s.fan.test.run with
  | none => s
  | some r =>
    let s := s.putTestRow r.fan { s.fan.test.rows.get r.fan with result := .incomplete }
    let t := { s.fan.test with run := none, outcome := some TestOutcome.aborted, cause := some cause }
    let s := (s.putTest t).leaveTest r.fan
    s.raise (.fanTestDone .aborted (some cause) t.failed)

/-- R48: an accepted fan test: the record cleared and the turn of F0 begun. -/
def State.startTest (s : State) : State :=
  State.beginTurns FanId.list (s.putTest { FanTest.empty with outcome := some .running })

/-! ## Overrides (R46, R47) -/

/-- The fans that hold a host override. -/
def State.overridden (s : State) : List FanId := FanId.list.filter (fun f => (s.fanOf f).override.isSome)

/-- R47: every host override is removed, and OVERRIDE_CLEARED is raised where there was one. -/
def State.clearOverrides (cause : Regime) (s : State) : State :=
  let fans := s.overridden
  let s := { s with fan := { s.fan with fans := s.fan.fans.mapWith (fun _ x => { x with override := none }) } }
  if fans.isEmpty then s else s.raise (.overrideCleared fans cause)

/-- R46: the override duty of a request. -/
def overrideDuty (minDuty duty : Nat) : Nat := if duty = 0 then 0 else max minDuty (min 1000 duty)

/-- R46: a host override is set: a fan not in KICK is commanded its duty at once. -/
def State.forceFan (f : FanId) (d : Nat) (s : State) : State :=
  let s := s.putFan f { s.fanOf f with override := some d }
  if (s.fanOf f).st = .kick then s else s.commandFan f d

/-- R47: the host override of one fan is removed. -/
def State.releaseFan (f : FanId) (s : State) : State :=
  if (s.fanOf f).override.isSome then (s.putFan f { s.fanOf f with override := none }).lowerFan f else s

/-- R45: one named fan is taken out of FAILED. -/
def State.clearFan (f : FanId) (s : State) : State :=
  let x := s.fanOf f
  if x.st = .failed then
    let s := s.putFan f
      { x with st := .off, since := s.now, attempts := 0, stallRun := 0, recovering := false,
               spinupDue := none, kickDue := none }
    let d := s.handedBack f x.duty
    let x := (s.fanOf f).noteDuty s.now d
    s.putFan f
      (if 0 < d then { x with st := .spinup, since := s.now, spinupDue := some (s.now + 2000), recovering := false } else x)
  else s

/-! ## Regime, Rest, installation -/

/-- R37, R38, R44: what the fans do when a regime is entered. A FAILED fan is commanded 1000 from the moment the regime
leaves NORMAL (notes/assumptions/8.md). -/
def State.fansOnRegime (new : Regime) (s : State) : State :=
  match new with
  | .normal => s.lowerToCaps
  | .protect =>
    (s.clearOverrides .protect).eachFan
      (fun f s => if (s.fanOf f).st = .failed ∧ s.hli.rest = false then s.commandFan f 1000 else s)
  | .emergency =>
    ((s.abortTest .emergency).clearOverrides .emergency).eachFan
      (fun f s => if s.hli.rest then s else s.commandFan f 1000)

/-- R40: a fan on the entry into Rest. -/
def Fan.enterRest (now : Nat) (x : Fan) : Fan :=
  let x := x.noteDuty now 0
  if x.st = .failed then x
  else
    { x with st := .off, since := now, spinupDue := none, kickDue := none, stallRun := 0, attempts := 0,
             recovering := false }

/-- R40: the fans on the entry into Rest. -/
def State.fansRest (s : State) : State :=
  { s with fan := { s.fan with fans := s.fan.fans.mapWith (fun _ x => x.enterRest s.now) } }

/-- R40: the fans on the end of Rest: each at the duty its source gives, the chain giving the minimum running duty. -/
def State.fansWake (s : State) : State :=
  s.eachFan (fun f s => s.commandFan f ((s.source f).getD (s.fanParams f).minDuty))

/-- R12: a commanded duty above 0 and below a minimum running duty is raised to it. -/
def liftDuty (minDuty d : Nat) : Nat := if 0 < d ∧ d < minDuty then minDuty else d

/-- R12, R46: a host override below a new minimum running duty is raised to it, an override of 0 too. A record that leaves the
minimum as it was brings no new one, and an override of 0 then stays 0 (notes/assumptions/8.md). -/
def liftOverride (old new d : Nat) : Nat := if new ≠ old ∧ d < new then new else d

/-- R12, R30, R46: one fan on the taking of an installation record, `old` being the parameters in force before it: its host
override is raised, and its commanded duty, which is the override's where the override is its source. -/
def State.installFan (old : Install) (f : FanId) (s : State) : State :=
  let x := s.fanOf f
  let m := (s.fanParams f).minDuty
  let s := s.putFan f
    { x with override := x.override.map (liftOverride (old.fans.get f).minDuty m), kickPrev := liftDuty m x.kickPrev }
  s.commandFan f ((s.source f).getD (liftDuty m x.duty))

/-- R12: the fans on the taking of an installation record. -/
def State.fansOnInstall (old : Install) (s : State) : State := (s.eachFan (State.installFan old)).lowerToCaps

/-- R41, R49: a tachometer pulse is counted for the period and, in the last second of a test step, for the step. A pulse at the
very instant at which that second begins, 2000 ms after the start of the step, is counted: the model's choice
(notes/assumptions/47.md). -/
def State.countPulse (f : FanId) (s : State) : State :=
  let x := s.fanOf f
  let s := s.putFan f { x with pulses := x.pulses + 1 }
  match s.fan.test.run with
  | some r =>
    if r.fan = f ∧ r.start + 2000 ≤ s.now then
      s.putTest { s.fan.test with run := some { r with pulses := r.pulses + 1 } }
    else s
  | none => s

end Sys2Proof.Machine
end

