-- ==== Sys2Proof/Machine/Link.lean ====
section
/-! DEFINITION. The light-engine link (R75 to R92): the transmitter and its waiting frames, the taking of the notice ceiling,
the reduction deadline, and the parts of acceptance, acknowledgement and loss that are the link's own. -/

namespace Sys2Proof.Machine

def State.putLink (l : LelBlock) (s : State) : State := { s with lel := l }

/-! ## The transmitter (R75) -/

/-- Two waiting frames of one kind (R75). -/
def WaitingFrame.sameKind : WaitingFrame → WaitingFrame → Bool
  | .solicit, .solicit => true
  | .advertReply, .advertReply => true
  | .advertReject _, .advertReject _ => true
  | .notice, .notice => true
  | _, _ => false

/-- R84: a frame takes its values when it is sent: a NOTICE the notice ceiling, the toggle and the regime in force. -/
def State.frameNow (s : State) : WaitingFrame → TxFrame
  | .solicit => .solicit
  | .advertReply => .advertReply
  | .advertReject r => .advertReject r
  | .notice => .notice (s.lel.n.getD 0) s.lel.toggle s.tsv.regime

/-- A frame begins to be sent. The reduction deadline that waits for a NOTICE counts from it (R83, R87), also
where that NOTICE has taken the place of one with a lower ceiling: the model's choice (notes/assumptions/43.md). -/
def State.send (w : WaitingFrame) (s : State) : State :=
  let l := { s.lel with sending := some (s.frameNow w) }
  if w.sameKind .notice ∧ l.deadlineWaits then
    s.putLink { l with deadline := some (s.now + 300), deadlineWaits := false }
  else s.putLink l

/-- R75: a frame becomes due: it is sent at once, or waits behind every waiting frame in place of an earlier one of its
kind. -/
def State.frameDue (w : WaitingFrame) (s : State) : State :=
  match s.lel.sending with
  | none => s.send w
  | some _ => s.putLink { s.lel with waiting := s.lel.waiting.filter (fun x => !x.sameKind w) ++ [w] }

/-- R75: a frame has been sent: the next waiting frame is sent. -/
def State.frameSent (s : State) : State :=
  let s := s.putLink { s.lel with sending := none }
  match s.lel.waiting with
  | [] => s
  | w :: rest => (s.putLink { s.lel with waiting := rest }).send w

/-- R75, R84: the link leaves UP: a NOTICE that still waits is dropped and the notice timer stops. -/
def State.stopNotices (s : State) : State :=
  s.putLink { s.lel with waiting := s.lel.waiting.filter (fun x => !x.sameKind .notice), noticeDue := none }

/-- R78: SOLICIT becomes due and the solicit timer starts. -/
def State.solicit (s : State) : State :=
  (s.putLink { s.lel with solicitDue := some (s.now + 200) }).frameDue .solicit

/-- R83, R84: a NOTICE becomes due and the notice timer starts. -/
def State.notify (s : State) : State :=
  (s.putLink { s.lel with noticeDue := some (s.now + 50) }).frameDue .notice

/-! ## The notice ceiling and the reduction deadline -/

/-- R87: the deadline starts at 300 ms from the NOTICE that carries the new N, which may still wait to be sent. -/
def State.startDeadline (s : State) : State :=
  s.putLink
    { s.lel with deadline := some (s.now + 300), deadlineWaits := s.lel.waiting.any (fun x => x.sameKind .notice) }

def State.stopDeadline (s : State) : State := s.putLink { s.lel with deadline := none, deadlineWaits := false }

/-- R87: the deadline after a change of N while the link is UP. -/
def State.deadlineOnChange (fell : Bool) (s : State) : State :=
  if s.lel.reductionPending then
    if fell || s.lel.deadline.isNone then s.startDeadline else s
  else s.stopDeadline

/-- R83: LEL takes a notice ceiling handed over outside an acceptance. -/
def State.takeNotice (n : Nat) (s : State) : State :=
  if s.lel.n = some n then s
  else
    let fell := match s.lel.n with
      | some old => decide (n < old)
      | none => false
    let s := s.putLink { s.lel with n := some n, toggle := !s.lel.toggle }
    if s.lel.st = .up then s.notify.deadlineOnChange fell else s

/-- R81: the handing within an acceptance: N is taken without flipping the toggle. -/
def State.takeNoticeAtAcceptance (n : Nat) (s : State) : State := s.putLink { s.lel with n := some n }

/-- R87: the regime leaves EMERGENCY while a reduction is pending and no deadline runs. -/
def State.deadlineOnClearing (s : State) : State :=
  if s.lel.reductionPending && s.lel.deadline.isNone then
    s.putLink { s.lel with deadline := some (s.now + 300), deadlineWaits := false }
  else s

/-- The acknowledged ceiling takes a new value, and CEILING_CHANGED is raised where it changes (R80, R86, R89, R91). -/
def State.setAcknowledged (ack : Option Nat) (s : State) : State :=
  if s.lel.ack = ack then s
  else (s.putLink { s.lel with ack := ack }).raise (.ceilingChanged s.lel.ack ack s.lel.n)

/-! ## Advertisements (R79) -/

def strictlyAscending : List Nat → Bool
  | x :: y :: rest => x < y && strictlyAscending (y :: rest)
  | _ => true

/-- R79: the first failed check of an advertisement, if any. -/
def AdvertFrame.reject (a : AdvertFrame) : Option RejectReason :=
  if 900 < a.minDrive then some .minDrive
  else if a.levels.any (fun x => x < a.minDrive || 1000 < x) then some .levelRange
  else if !strictlyAscending a.levels then some .levelOrder
  else if 300 < a.minRunOn then some .runOn
  else if 2 < a.thermals then some .thermalCount
  else none

/-- R80: LEL's own state on the acceptance of an ADVERT. -/
def State.linkAccept (a : AdvertFrame) (s : State) : State :=
  let s := s.setAcknowledged none
  s.putLink
    { s.lel with
      resolved := some a, st := .up, solicitDue := none, toggle := false, lastEcho := none, deadline := none,
      deadlineWaits := false, overCount := 0, drive := 0, lossDue := some (s.now + 200) }

/-! ## Frame errors (R76) -/

/-- R76: the frame in collection is discarded, one frame error is counted, and the receiver hunts again. -/
def State.frameError (s : State) : State :=
  s.putLink { s.lel with frameErrors := satSucc s.lel.frameErrors, rx := .hunting }

def State.receiverHunts (s : State) : State := s.putLink { s.lel with rx := .hunting }

end Sys2Proof.Machine
end

