-- ==== Sys2Proof/Machine/Thermal.lean ====
section
/-! DEFINITION. The thermal supervisor (R53 to R74): causes and regimes, the computed ceiling, the notice ceiling, fast
watch, recirculation and run-on; the end of Rest without a request (R200), which a change of regime can bring. -/

namespace Sys2Proof.Machine

def State.putTsv (t : TsvBlock) (s : State) : State := { s with tsv := t }

/-! ## The notice ceiling (R70) -/

/-- R64: the floor an advertisement gives. -/
def AdvertFrame.floor (a : AdvertFrame) : Nat :=
  match a.levels with
  | [] => a.minDrive
  | l :: rest => rest.foldl min l

/-- R70: the largest listed level at or below C. -/
def largestAtMost (c : Nat) (levels : List Nat) : Option Nat :=
  (levels.filter (fun l => l ≤ c)).foldl (fun best l => some (max (best.getD 0) l)) none

/-- R70: the notice ceiling. -/
def noticeFor (regime : Regime) (resolved : Option AdvertFrame) (c floor : Nat) : Nat :=
  if regime = .emergency then 0
  else
    match resolved with
    | none => c
    | some a => if a.levels.isEmpty then max c a.minDrive else (largestAtMost c a.levels).getD floor

def State.noticeValue (s : State) : Nat := noticeFor s.tsv.regime s.lel.resolved s.tsv.ceiling s.tsv.floor

/-- R70: N is resolved, and handed to the link where it differs from the N last handed over. -/
def State.resolveNotice (s : State) : State :=
  let n := s.noticeValue
  if s.tsv.handedN = some n then s
  else (s.putTsv { s.tsv with handedN := some n }).takeNotice n

/-- R81: the same within an acceptance, which has set the N last handed over to none. -/
def State.resolveNoticeAtAcceptance (s : State) : State :=
  let n := s.noticeValue
  (s.putTsv { s.tsv with handedN := some n }).takeNoticeAtAcceptance n

/-! ## Rest ends (R199, R200) -/

/-- R199: Rest ends, and the blocks of R198 take the end. -/
def State.endRest (s : State) : State :=
  if s.hli.rest then { s with hli := { s.hli with rest := false } }.fansWake else s

/-- R200: Rest in force ends without a request, and WOKE is raised. -/
def State.wake (cause : WakeCause) (s : State) : State :=
  if s.hli.rest then s.endRest.raise (.woke cause) else s

/-! ## Regimes -/

/-- R60: TSV's own part of a change of regime. -/
def TsvBlock.enter (new : Regime) (cause : CauseAt) (t : TsvBlock) : TsvBlock :=
  let t := { t with regime := new, entryCause := some cause, dwell := 0 }
  match new with
  | .emergency => { t with ceiling := 0 }
  | _ => t

/-- R67: the fan-loss cut. -/
def TsvBlock.fanLossCut (limit : Nat) (t : TsvBlock) : TsvBlock := { t with ceiling := max t.floor (min t.ceiling limit) }

/-- R60: a change of regime, its ceiling set by `adjust`: N is resolved, the fans, the link and Rest take the new regime,
and REGIME_CHANGED is raised. -/
def State.changeRegime (new : Regime) (cause : CauseAt) (adjust : TsvBlock → TsvBlock) (s : State) : State :=
  let old := s.tsv.regime
  let s := (s.putTsv (adjust (s.tsv.enter new cause))).resolveNotice
  let s := s.fansOnRegime new
  let s := if old = .emergency then s.deadlineOnClearing else s
  (s.wake (.regime new)).raise (.regimeChanged old new cause)

/-- R59: a report of the link enters EMERGENCY, unless it is in force. -/
def State.reportEmergency (cause : Cause) (s : State) : State :=
  if s.tsv.regime = .emergency then s else s.changeRegime .emergency { cause := cause, index := none } id

/-! ## Causes (R56 to R58) -/

/-- The lowest present channel whose working value passes a test against its parameters. -/
def State.firstChannel (s : State) (test : ChannelParams → Temp → Bool) : Option Chan :=
  (s.workingValues.find? (fun c => test (s.chanParams c.1) c.2)).map (fun c => c.1)

def State.firstCritical (s : State) : Option Chan := s.firstChannel (fun p t => p.critical ≤ t)

def State.firstWarning (s : State) : Option Chan := s.firstChannel (fun p t => p.warning ≤ t)

/-- The lowest present channel in FAULT. -/
def State.firstFault (s : State) : Option Chan :=
  Chan.list.find? (fun c => (s.channel c).present && (s.channel c).fault)

/-- The lowest of F0, F1 and F3 that is FAILED. -/
def State.firstFailedFan (s : State) : Option FanId :=
  [FanId.f0, FanId.f1, FanId.f3].find? (fun f => (s.fanOf f).st = .failed)

def causeOf (cause : Cause) (index : Option Nat) : List CauseAt :=
  match index with
  | some i => [{ cause := cause, index := some i }]
  | none => []

/-- R58: the EMERGENCY causes that hold, in the order of R61. -/
def State.emergencyCauses (s : State) : List CauseAt :=
  causeOf .critical (s.firstCritical.map Chan.index)
    ++ (if (s.fanOf .f2).st = .failed then [{ cause := .fanFailed, index := some 2 }] else [])

/-- R56: the PROTECT causes that hold, in the order of R61. -/
def State.protectCauses (s : State) : List CauseAt :=
  causeOf .sensorFault (s.firstFault.map Chan.index) ++ causeOf .warning (s.firstWarning.map Chan.index)
    ++ causeOf .fanFailed (s.firstFailedFan.map FanId.index)
    ++ (if s.tsv.recirc then [{ cause := .recirculation, index := none }] else [])

/-- R57: every condition for leaving PROTECT. -/
def State.protectCleared (s : State) : Bool :=
  s.workingValues.all (fun c => c.2 < (s.chanParams c.1).warning - 30) && s.firstFault.isNone
    && s.firstFailedFan.isNone && !s.tsv.recirc

/-- R56 to R58, R61, R67: the regime evaluation of a period end. -/
def State.evaluateRegime (s : State) : State :=
  let emergency := s.emergencyCauses
  let protect := s.protectCauses
  let s := s.putTsv { s.tsv with causes := emergency ++ protect }
  match s.tsv.regime with
  | .emergency => s
  | .normal =>
    match emergency, protect with
    | e :: _, _ => s.changeRegime .emergency e id
    | [], p :: _ =>
      let cut := if protect.any (fun c => c.cause = .fanFailed) then TsvBlock.fanLossCut s.cfg.params.fanLossCeiling else id
      s.changeRegime .protect p cut
    | [], [] => s
  | .protect =>
    match emergency with
    | e :: _ => s.changeRegime .emergency e id
    | [] =>
      if s.protectCleared then
        s.changeRegime .normal { cause := if s.tsv.recircLast then .recirculation else .cooled, index := none } id
      else s

/-! ## The computed ceiling -/

/-- R66: the derate excess, 0 when the set has no present member. -/
def State.derateExcess (s : State) : Int :=
  match s.cfg.params.derateSet.filterMap (fun c => (s.working c).map (fun t => t - (s.chanParams c).derate)) with
  | e :: rest => rest.foldl max e
  | [] => 0

/-- R66: the ceiling step under PROTECT. -/
def protectStep (floor lightMax c : Nat) (e : Int) : Nat :=
  if 0 < e then max floor (c - 20)
  else if e < -20 then min lightMax (c + 10)
  else c

/-- R65, R66, R69: the ceiling step of a period end. The derate excess of the last PROTECT period end is kept for STATUS, which
reports it in PROTECT alone (R74, notes/assumptions/36.md). -/
def State.ceilingStep (s : State) : State :=
  let t := s.tsv
  match t.regime with
  | .normal => s.putTsv { t with ceiling := min t.lightMax (t.ceiling + 10), dwell := 0 }
  | .protect =>
    let e := s.derateExcess
    s.putTsv { t with ceiling := protectStep t.floor t.lightMax t.ceiling e, excess := some e }
  | .emergency => s.putTsv { t with ceiling := 0 }

/-- R68: the floor dwell count of a period end, and its entry into EMERGENCY. -/
def State.floorDwell (s : State) : State :=
  let t := s.tsv
  if t.regime = .protect then
    if t.ceiling = t.floor ∧ (0 : Int) < t.excess.getD 0 then
      let runaway : CauseAt := { cause := .thermalRunaway, index := none }
      if 40 ≤ t.dwell + 1 then
        (s.putTsv { t with causes := t.causes ++ [runaway] }).changeRegime .emergency runaway id
      else s.putTsv { t with dwell := t.dwell + 1 }
    else s.putTsv { t with dwell := 0 }
  else s

/-- R63, R64: M is formed again from the requested maximum and the floor, and outside EMERGENCY C is brought into F … M. -/
def TsvBlock.formLimits (t : TsvBlock) : TsvBlock :=
  let m := max t.requested t.floor
  let t := { t with lightMax := m }
  if t.regime = .emergency then t else { t with ceiling := max t.floor (min m t.ceiling) }

/-- R63, R70: the requested light-mode maximum is set; where M changes by it, C is lowered to M and N is resolved. -/
def State.setLightMode (level : Nat) (s : State) : State :=
  let t := { s.tsv with requested := level }
  if t.formLimits.lightMax = s.tsv.lightMax then s.putTsv t else (s.putTsv t.formLimits).resolveNotice

/-! ## Recirculation, fast watch, run-on -/

/-- R5, R71: the recirculation counts of a period end. -/
def State.recirculation (s : State) : State :=
  let t := s.tsv
  match s.cfg.orientation, s.working .s0, s.working .s1 with
  | .ceiling, some s0, some s1 =>
    if t.recirc then
      let n := if s0 ≤ s1 - 80 then t.clearCount + 1 else 0
      if 20 ≤ n then s.putTsv { t with recirc := false, entryCount := 0, clearCount := 0 }
      else s.putTsv { t with clearCount := n }
    else
      let n := if s1 - 40 ≤ s0 ∧ 300 ≤ (s.fanOf .f1).periodDuty then t.entryCount + 1 else 0
      if 20 ≤ n then s.putTsv { t with recirc := true, entryCount := 0, clearCount := 0 }
      else s.putTsv { t with entryCount := n }
  | _, _, _ => s.putTsv t

/-- R55: fast watch, which sets the length of the period that begins now. -/
def State.fastWatch (s : State) : State :=
  let t := s.tsv
  let near := s.workingValues.any (fun c => (s.chanParams c.1).warning - 50 ≤ c.2)
  let clear := s.workingValues.all (fun c => c.2 < (s.chanParams c.1).warning - 80)
  let len := if t.periodLen = 125 then (if clear then 250 else 125) else (if near then 125 else 250)
  s.putTsv { t with periodLen := len, periodStart := s.now }

/-- R73: run-on ends. -/
def State.endRunOn (cause : RunOnEnd) (began : Nat) (s : State) : State :=
  (s.putTsv { s.tsv with runOn := none, lastRunOnEnd := cause }).raise (.cooldownDone cause ((s.now - began) / 1000))

/-- R73: the run-on end check of a period end. -/
def State.runOnCheck (s : State) : State :=
  match s.tsv.runOn with
  | none => s
  | some began =>
    let minimum := match s.lel.resolved with
      | some a => a.minRunOn
      | none => 0
    let cool (c : Chan) : Bool := match s.working c with
      | some t => t < s.cfg.params.runOnRelease
      | none => true
    if minimum * 1000 ≤ s.now - began ∧ cool .s2 ∧ cool .s6 ∧ cool .s7 then s.endRunOn .temperature began else s

/-- R72: TSV takes the drive of an accepted TELEMETRY. -/
def State.takeDrive (drive : Nat) (s : State) : State :=
  let t := s.tsv
  let t :=
    if drive = 0 then
      if 0 < t.lastDrive ∧ t.runOn = none then { t with runOn := some s.now, lastRunOnEnd := .none } else t
    else { t with runOn := none }
  s.putTsv { t with lastDrive := drive }

/-- R61: whether recirculation is present at this period end, for the cause named at the next. -/
def State.noteRecirc (s : State) : State := s.putTsv { s.tsv with recircLast := s.tsv.recirc }

/-- R54: TSV's own work at a period end, in its order. -/
def State.supervise (s : State) : State :=
  (s.recirculation.evaluateRegime.noteRecirc.ceilingStep.floorDwell.fastWatch.runOnCheck).resolveNotice

/-- R64: TSV takes the resolved advertisement at an acceptance. -/
def State.superviseAccept (a : AdvertFrame) (s : State) : State :=
  (s.putTsv { s.tsv with floor := a.floor, handedN := none }.formLimits).resolveNoticeAtAcceptance

/-- R5: the recirculation watch when the orientation in force changes at a taking. -/
def State.recircOnOrientation (old : Orientation) (s : State) : State :=
  if s.cfg.orientation = .table ∧ old = .ceiling then
    s.putTsv { s.tsv with recirc := false, entryCount := 0, clearCount := 0 }
  else s

/-- R200: a sample point wakes a part in Rest where a present channel stands at or above its warning threshold. -/
def State.wakeByTemperature (s : State) : State :=
  match s.firstWarning with
  | some c => s.wake (.temperature c)
  | none => s

end Sys2Proof.Machine
end

