-- ==== Sys2Proof/Machine/Axes.lean ====
section
/-! DEFINITION. The axis controllers (R93 to R116): hold levels, the start and the steps of a move, homing, halts, slips,
and the motor-driver conditions. An operation that can end an order gives the axis's answer beside the new state. -/

namespace Sys2Proof.Machine

/-! ## Positions (R3) -/

/-- R3: the motor position of a screen position, and the screen position of a motor position: the two conversions are the
same. -/
def convert (o : Orientation) (travelLimit : Nat) (p : Int) : Int :=
  match o with
  | .table => p
  | .ceiling => travelLimit - p

def State.convert (s : State) (a : AxisId) (p : Int) : Int := Machine.convert s.cfg.orientation (s.axisParams a).travelLimit p

/-- R3: the screen position of an axis, absent while it is not referenced. -/
def State.screen (s : State) (a : AxisId) : Option Int := (s.axis a).pos.map (fun m => s.convert a m)

/-! ## Replacing an axis; motion reports (R113) -/

/-- An axis replaced, its entry into motion or exit from it told to the fan controller. -/
def State.putAxis (a : AxisId) (x : Axis) (s : State) : State :=
  let was := (s.axis a).st.inMotion
  let s := { s with axc := { s.axc with axes := s.axc.axes.set a x } }
  if x.st.inMotion then (if was then s else s.motionEntered)
  else (if was then s.motionLeft else s)

/-! ## Hold levels (R95 to R98) -/

/-- R96: an axis that may be released: H, and V under a record that marks it self-locking. -/
def State.mayRelease (s : State) (a : AxisId) : Bool := a == .h || s.cfg.params.vSelfLocking

/-- R97, R98: the resting level, which is also the Rest level. -/
def State.restingLevel (s : State) (a : AxisId) : HoldLevel := if s.mayRelease a then .released else .reduced

/-- R95: the hold level of an axis in motion. -/
def State.motionLevel (s : State) : HoldLevel := if s.axc.forced then .reduced else .full

/-- R96, R108: the REDUCED stage, with its release timer where the axis may be released. -/
def State.reducedStage (s : State) (a : AxisId) (x : Axis) : Axis :=
  { x with
    hold := .reduced,
    holdDue := if s.mayRelease a then some (s.now + (s.axisParams a).releaseTime * 1000) else none }

/-- R96, R108: an axis that comes to rest at IDLE enters its hold stages, past the FULL stage under forced reduced hold. -/
def State.enterHold (s : State) (a : AxisId) (x : Axis) : Axis :=
  if s.axc.forced then s.reducedStage a x
  else { x with hold := .full, holdDue := some (s.now + 200 + (s.axisParams a).holdTime) }

/-- R97: an axis enters UNREFERENCED or FAULT at its resting level. -/
def State.atResting (s : State) (a : AxisId) (st : AxisState) (x : Axis) : Axis :=
  { x with st := st, pos := none, hold := s.restingLevel a, holdDue := none, energiseDue := none, motion := none,
           homing := none }

/-- R96: the hold stage timer expires. -/
def State.holdStageEnds (a : AxisId) (s : State) : State :=
  let x := s.axis a
  let released : Axis := { x with hold := s.restingLevel a, holdDue := none }
  match x.hold with
  | .full =>
    if s.mayRelease a ∧ (s.axisParams a).releaseTime = 0 then s.putAxis a released else s.putAxis a (s.reducedStage a x)
  | _ => s.putAxis a released

/-! ## Starting a move (R99 to R102) -/

/-- R102: an axis ends its order at IDLE and enters its hold stages. -/
def State.toIdle (a : AxisId) (x : Axis) (s : State) : State :=
  s.putAxis a (s.enterHold a { x with st := .idle, order := none, keptHome := false, motion := none, homing := none,
                                      energiseDue := none })

/-- R101: the end of the first segment of a move. -/
def firstGoal (backlash pos target : Nat) : Nat := if target < pos then target - backlash else target

/-- R99, R101, R111: an axis enters MOVING toward its target, planned from where it stands; with nothing to move it ends the
order at once. -/
def State.enterMoving (a : AxisId) (target : Nat) (s : State) : State × Option AxisAnswer :=
  let x := s.axis a
  let pos := x.pos.getD 0
  if pos = target then (s.toIdle a x, some .ok)
  else
    (s.putAxis a
      { x with
        st := .moving, order := some (.move target), hold := s.motionLevel, holdDue := none, energiseDue := none,
        motion := some { goal := firstGoal (s.axisParams a).backlash pos target, run := 0, stopping := .no },
        dirUp := decide (pos < target) }, none)

/-- R94: a move order on an IDLE axis: kept under motion hold (R110), nothing to do (R101), or started (R99). -/
def State.startMove (a : AxisId) (target : Nat) (s : State) : State × Option AxisAnswer :=
  let x := s.axis a
  if s.axc.held then
    (s.putAxis a { x with st := .suspended, order := some (.move target), hold := .reduced, holdDue := none }, none)
  else if x.pos = some target then (s, some .ok)
  else if x.hold = .released then
    (s.putAxis a
      { x with st := .energising, order := some (.move target), hold := s.motionLevel, holdDue := none,
               energiseDue := some (s.now + 50) }, none)
  else s.enterMoving a target

/-- R3: the motor target of a screen target, which the lens controller clamps to 0 … travel limit before handing it on. -/
def State.motorTarget (s : State) (a : AxisId) (screenTarget : Int) : Nat :=
  (s.convert a (clampTo 0 (s.axisParams a).travelLimit screenTarget)).toNat

/-- R3, R94: the arrival of a move order to a screen target. -/
def State.moveOrder (a : AxisId) (screenTarget : Int) (s : State) : State × Option AxisAnswer :=
  match (s.axis a).st with
  | .idle => s.startMove a (s.motorTarget a screenTarget)
  | .unreferenced => (s, some .notReferenced)
  | .fault => (s, some .axisFault)
  | _ => (s, none)

/-! ## Homing (R103, R104) -/

/-- R103: an axis enters HOMING: back off first where the end-stop input is active, else seek. -/
def State.enterHoming (a : AxisId) (s : State) : State :=
  let x := s.axis a
  s.putAxis a
    { x with
      st := .homing, pos := none, hold := s.motionLevel, holdDue := none, energiseDue := none, motion := none,
      homing := some (if x.endstop then .backOff 0 else .seek 0 (s.axisParams a).travelLimit), dirUp := x.endstop }

/-- R103, R136: a homing starts: the axis is no longer referenced, and a homing of V sets the applied drift to 0. -/
def State.startHome (a : AxisId) (origin : HomeOrigin) (s : State) : State :=
  let x := { s.axis a with pos := none, order := some (AxisOrder.home origin), keptHome := false }
  let s := if a = .v then { s with lnc := { s.lnc with applied := 0 } } else s
  if x.hold = .released then
    s.putAxis a { x with st := .energising, hold := s.motionLevel, holdDue := none, energiseDue := some (s.now + 50) }
  else (s.putAxis a x).enterHoming a

/-- R94, R110: the arrival of a home order: kept under motion hold, else started. -/
def State.homeOrder (a : AxisId) (origin : HomeOrigin) (s : State) : State :=
  if s.axc.held then s.putAxis a { s.axis a with order := some (.home origin), keptHome := true }
  else s.startHome a origin

/-- R104: the origin of the home order in progress. -/
def Axis.homeOrigin (x : Axis) : HomeOrigin :=
  match x.order with
  | some (.home o) => o
  | _ => .request

/-- R104: a homing fails: FAULT at the resting level, and HOME_DONE. -/
def State.homingFails (a : AxisId) (cause : HomeCause) (x : Axis) (s : State) : State :=
  (s.putAxis a (s.atResting a .fault { x with order := none, keptHome := false })).raise
    (.homeDone a .failed (some cause) x.homeOrigin)

/-- R103, R104: one step of a homing, `x` being the axis with the end-stop level tested after the step. -/
def State.homingStep (a : AxisId) (x : Axis) (phase : HomePhase) (s : State) : State × Option AxisAnswer :=
  match phase with
  | .backOff n =>
    if x.endstop then
      if 200 ≤ n + 1 then (s.homingFails a .endstopStuck x, some .axisFault)
      else (s.putAxis a { x with homing := some (.backOff (n + 1)) }, none)
    else (s.putAxis a { x with homing := some (.seek 0 (s.axisParams a).travelLimit), dirUp := false }, none)
  | .seek n limit =>
    if x.endstop then
      ((s.toIdle a { x with pos := some 0 }).raise (.homeDone a .ok none x.homeOrigin), some .ok)
    else if limit + 500 ≤ n + 1 then (s.homingFails a .notFound x, some .axisFault)
    else (s.putAxis a { x with homing := some (.seek (n + 1) limit) }, none)

/-- R99: the energise timer expires: the axis enters MOVING or HOMING by its order. -/
def State.energiseEnds (a : AxisId) (s : State) : State × Option AxisAnswer :=
  let x := s.axis a
  match x.order with
  | some (.move target) => s.enterMoving a target
  | some (.home _) => (s.enterHoming a, none)
  | none => (s.putAxis a { x with energiseDue := none }, none)

/-! ## Steps of a move (R95, R100 to R102, R105, R106, R109) -/

/-- R106: a slip in motion: the axis stops at its end-stop, at motor position 0. -/
def State.slipInMotion (a : AxisId) (counted : Nat) (x : Axis) (s : State) : State :=
  let n := satSucc x.slipCount
  (s.toIdle a { x with pos := some 0, slipCount := n }).raise (.slip a .inMotion counted n)

/-- R109: an axis stops into SUSPENDED, keeping its move. -/
def State.toSuspended (a : AxisId) (x : Axis) (s : State) : State :=
  s.putAxis a { x with st := .suspended, motion := none, energiseDue := none, hold := .reduced, holdDue := none }

/-- R101: the second segment of a move begins, upward to the target. -/
def Axis.secondSegment (target : Nat) (x : Axis) : Axis :=
  { x with motion := some { goal := target, run := 0, stopping := .no }, dirUp := true }

/-- R100 to R102, R105, R109: what follows a step of a move that met no slip, `x` being the axis after the step. An axis
that stops under a motion hold that has ended meanwhile takes its move up again at once (notes/assumptions/9.md). -/
def State.afterStep (a : AxisId) (target : Nat) (m : Motion) (x : Axis) (s : State) : State × Option AxisAnswer :=
  match m.stopping with
  | .halt n => if n ≤ 1 then (s.toIdle a x, some .stopped)
      else (s.putAxis a { x with motion := some { m with run := m.run + 1, stopping := .halt (n - 1) } }, none)
  | .hold n =>
      if n ≤ 1 then
        if s.axc.held then (s.toSuspended a x, none) else (s.toSuspended a x).enterMoving a target
      else (s.putAxis a { x with motion := some { m with run := m.run + 1, stopping := .hold (n - 1) } }, none)
  | .no =>
    if x.pos = some m.goal then
      if m.goal = target then (s.toIdle a x, some .ok) else (s.putAxis a (x.secondSegment target), none)
    else (s.putAxis a { x with motion := some { m with run := m.run + 1 } }, none)

/-- R95: a step counted: up adds 1, down subtracts 1. -/
def stepped (up : Bool) (pos : Nat) : Nat := if up then pos + 1 else pos - 1

/-- R95, R106: one step of a move. -/
def State.movingStep (a : AxisId) (target : Nat) (m : Motion) (x : Axis) (s : State) : State × Option AxisAnswer :=
  let pos := stepped x.dirUp (x.pos.getD 0)
  if x.endstop ∧ 16 < pos then (s.slipInMotion a pos x, some .slipped)
  else s.afterStep a target m { x with pos := some pos }

/-- R95: an axis issues its next step, with the end-stop level tested after it. An axis that is not MOVING or HOMING issues
none; the level is then no more than the input's. -/
def State.axisSteps (a : AxisId) (endstop : Bool) (s : State) : State × Option AxisAnswer :=
  let x := { s.axis a with endstop := endstop }
  match x.st, x.order, x.motion, x.homing with
  | .moving, some (.move target), some m, _ => s.movingStep a target m x
  | .homing, _, _, some phase => s.homingStep a x phase
  | _, _, _, _ => (s.putAxis a x, none)

/-! ## Halts (R105) -/

/-- R100: the steps of a ramp to the top speed, (top speed)² / (2 × acceleration), the free value deciding where that is not
a whole number. -/
def AxisParams.rampSteps (p : AxisParams) : Nat :=
  let n := p.topSpeed * p.topSpeed
  let d := 2 * p.acceleration
  if n % d ≠ 0 ∧ Config.rampRoundsUp p.topSpeed p.acceleration then n / d + 1 else n / d

/-- R100, R105, R109: the steps an axis takes to stop at its acceleration: as many as it has taken in the segment, at most a
ramp, and never past the segment's end. -/
def Motion.stopSteps (m : Motion) (p : AxisParams) (pos : Nat) : Nat :=
  min (min m.run p.rampSteps) (if pos ≤ m.goal then m.goal - pos else pos - m.goal)

/-- R105: a halt of an axis in MOVING. -/
def State.haltMoving (a : AxisId) (x : Axis) (m : Motion) (s : State) : State × Option AxisAnswer :=
  match m.stopping with
  | .halt _ => (s, none)
  | .hold n => (s.putAxis a { x with motion := some { m with stopping := .halt n } }, none)
  | .no =>
    let n := m.stopSteps (s.axisParams a) (x.pos.getD 0)
    if n = 0 then (s.toIdle a x, some .stopped)
    else (s.putAxis a { x with motion := some { m with stopping := .halt n } }, none)

/-- R105: a homing, or the energising for one, is stopped at UNREFERENCED. -/
def State.stopHoming (a : AxisId) (x : Axis) (s : State) : State × Option AxisAnswer :=
  ((s.putAxis a (s.atResting a .unreferenced { x with order := none, keptHome := false })).raise
    (.homeDone a .stopped none x.homeOrigin), some .stopped)

/-- R105: a halt order, by the state of the axis. -/
def State.haltOrder (a : AxisId) (s : State) : State × Option AxisAnswer :=
  let x := s.axis a
  match x.st, x.motion with
  | .moving, some m => s.haltMoving a x m
  | .moving, none => (s, none)
  | .homing, _ => s.stopHoming a x
  | .energising, _ =>
    match x.order with
    | some (.home _) => s.stopHoming a x
    | _ =>
      (s.putAxis a { x with st := .idle, order := none, energiseDue := none, hold := s.restingLevel a, holdDue := none },
        some .stopped)
  | .suspended, _ => (s.toIdle a x, some .stopped)
  | .unreferenced, _ | .idle, _ | .fault, _ =>
    if x.keptHome then
      ((s.putAxis a { x with order := none, keptHome := false }).raise (.homeDone a .stopped none x.homeOrigin), some .stopped)
    else (s, none)

/-! ## Slip at rest (R107) -/

/-- R107: the end-stop input of one axis changes. Gives whether that is a slip. -/
def State.endstopChanges (a : AxisId) (endstop : Bool) (s : State) : State × Bool :=
  let x := s.axis a
  let rises := endstop && !x.endstop
  let x := { x with endstop := endstop }
  match x.pos with
  | some pos =>
    let n := satSucc x.slipCount
    let y := { x with pos := some 0, slipCount := n }
    let ev := Event.slip a .atRest pos n
    if rises ∧ 16 < pos then
      match x.st with
      | .idle =>
        if s.hli.rest then ((s.putAxis a { y with hold := s.restingLevel a, holdDue := none }).raise ev, true)
        else ((s.putAxis a (s.enterHold a y)).raise ev, true)
      | .suspended | .energising => ((s.putAxis a y).raise ev, true)
      | _ => (s.putAxis a x, false)
    else (s.putAxis a x, false)
  | none => (s.putAxis a x, false)

/-! ## Motor-driver heat (R108 to R112) -/

/-- R108: forced reduced hold comes into force on one axis. -/
def State.forceReduced (a : AxisId) (s : State) : State :=
  let x := s.axis a
  if x.st.inMotion then s.putAxis a { x with hold := .reduced }
  else if x.hold = .full then s.putAxis a (s.reducedStage a x)
  else s

/-- R108: forced reduced hold ends on one axis. -/
def State.endReduced (a : AxisId) (s : State) : State :=
  let x := s.axis a
  if x.st.inMotion then s.putAxis a { x with hold := .full } else s

def State.putConditions (forced held : Bool) (s : State) : State :=
  { s with axc := { s.axc with forced := forced, held := held } }

/-- R108: the forced reduced check of a period end. -/
def State.forcedCheck (s5 : Temp) (s : State) : State :=
  if s.axc.forced then
    if s5 < s.cfg.params.motorReduce - 30 then ((s.putConditions false s.axc.held).endReduced .h).endReduced .v else s
  else if s.cfg.params.motorReduce ≤ s5 then ((s.putConditions true s.axc.held).forceReduced .h).forceReduced .v
  else s

/-- R109: motion hold enters on one axis. -/
def State.holdAxis (a : AxisId) (s : State) : State :=
  let x := s.axis a
  match x.st, x.motion with
  | .moving, some m =>
    match m.stopping with
    | .no =>
      let n := m.stopSteps (s.axisParams a) (x.pos.getD 0)
      if n = 0 then s.toSuspended a x else s.putAxis a { x with motion := some { m with stopping := .hold n } }
    | _ => s
  | .homing, _ => s.putAxis a { s.atResting a .unreferenced x with keptHome := true }
  | .energising, _ =>
    match x.order with
    | some (.home _) => s.putAxis a { s.atResting a .unreferenced x with keptHome := true }
    | _ => s.toSuspended a x
  | _, _ => s

/-- R112: what the hold did to one axis or takes up again on it, read from the axis as the hold entered or ends. -/
def State.holdEffect (s : State) (a : AxisId) : HoldEffect :=
  let x := s.axis a
  if x.keptHome then .keptHome
  else
    match x.st, x.order, x.motion with
    | .suspended, some (.move t), _ => .suspendedMove (s.convert a t)
    | .moving, some (.move t), some { stopping := .hold _, .. } => .suspendedMove (s.convert a t)
    | _, _, _ => .nothing

def State.holdEffects (s : State) : PerAxis HoldEffect := { h := s.holdEffect .h, v := s.holdEffect .v }

/-- R109, R112: motion hold enters. -/
def State.enterHoldCondition (s5 : Temp) (s : State) : State :=
  let s := ((s.putConditions s.axc.forced true).holdAxis .h).holdAxis .v
  s.raise (.motionHeld true s5 s.holdEffects)

/-- R111: one axis takes up its kept order. -/
def State.resumeAxis (a : AxisId) (s : State) : State × Option AxisAnswer :=
  let x := s.axis a
  if x.keptHome then (s.startHome a x.homeOrigin, none)
  else
    match x.st, x.order with
    | .suspended, some (.move t) => s.enterMoving a t
    | _, _ => (s, none)

/-! ## Rest and installation (R98, R11) -/

/-- R98: one axis at rest takes its Rest level. -/
def State.restAxis (a : AxisId) (s : State) : State :=
  let x := s.axis a
  if x.st.inMotion then s else s.putAxis a { x with hold := s.restingLevel a, holdDue := none }

/-- R11: V's hold level where the self-locking flag changes with the record taken. -/
def State.selfLockingChange (wasLocking : Bool) (a : AxisId) (x : Axis) (s : State) : Axis :=
  if a = .h then x
  else if s.cfg.params.vSelfLocking then
    if wasLocking then x
    else
      match x.st with
      | .idle => if x.hold = .reduced then s.reducedStage a x else x
      | .unreferenced | .fault => { x with hold := .released, holdDue := none }
      | _ => x
  else if x.hold = .released then { x with hold := .reduced, holdDue := none }
  else x

/-- R11: one axis takes a new installation record, in force already. -/
def State.axisOnInstall (wasLocking : Bool) (a : AxisId) (s : State) : State :=
  let x := s.axis a
  match x.pos with
  | some pos =>
    if (s.axisParams a).travelLimit < pos then s.putAxis a (s.atResting a .unreferenced x)
    else s.putAxis a (s.selfLockingChange wasLocking a x)
  | none => s.putAxis a (s.selfLockingChange wasLocking a x)

/-- R94: an axis at rest with no order in progress and no kept HOME (R122, R10). -/
def Axis.free (x : Axis) : Bool :=
  (x.st == .idle || x.st == .unreferenced || x.st == .fault) && x.order.isNone && !x.keptHome

end Sys2Proof.Machine
end

