-- ==== Sys2Proof/Machine/Lens.lean ====
section
/-! DEFINITION. The lens controller (R117 to R138): planned and base positions, the request queue and its execution, the
outcome list, the recall history, stopping, and drift tracking with its corrections. -/

namespace Sys2Proof.Machine

def State.putLens (l : LncBlock) (s : State) : State := { s with lnc := l }

/-! ## Positions (R117, R119) -/

/-- R117: the base position of an axis. -/
def State.base (s : State) (a : AxisId) : Option Int :=
  match a with
  | .h => s.screen .h
  | .v =>
    match s.lnc.correction with
    | some c => (s.screen .v).map (fun _ => c.heldBase)
    | none => (s.screen .v).map (fun p => p - s.lnc.applied)

/-- R119: the target of a part: a move's clamped target, or the screen position of motor position 0 for a home. -/
def State.partTarget (s : State) (a : AxisId) : Part → Int
  | .move t _ _ => t
  | .home => s.convert a 0

/-- R119: the planned position of an axis. -/
def State.planned (s : State) (a : AxisId) : Option Int :=
  match s.lnc.queue.reverse.findSome? (fun e => e.parts.get a) with
  | some p => some (s.partTarget a p)
  | none =>
    match s.lnc.executing.bind (fun x => x.request.parts.get a) with
    | some p => some (s.partTarget a p)
    | none => s.base a

/-- R120: a target clamped to 0 … travel limit, with its clamped mark and remainder. -/
def State.clampTarget (s : State) (a : AxisId) (target : Int) : Part :=
  let t := clampTo 0 (s.axisParams a).travelLimit target
  .move t (t != target) (clampTo (-2000) 2000 (target - t))

/-! ## Residuals (R137) -/

/-- R137: the digital residual of each axis. -/
def LncBlock.digital (l : LncBlock) : PerAxis Int := { h := l.overrange.h, v := l.overrange.v + l.driftResidual }

/-- R137: the digital residuals are handed to the geometry unit where either has changed. -/
def State.handOver (s : State) : State :=
  if s.lnc.digital = s.geo.residual then s else s.setResiduals s.lnc.digital

/-! ## Drift (R131, R132, R135, R136) -/

/-- R131: the drift of a barrel temperature against a Tcal, clamped to −400 … +400. -/
def driftOf (kd : Int) (s3 tcal : Temp) : Int := clampTo (-400) 400 (roundHalfAway (kd * (s3 - tcal)) 160)

/-- The working value of S3 where its quality is KNOWN. -/
def State.knownBarrel (s : State) : Option Temp := if s.quality .s3 = .known then s.working .s3 else none

/-- R132: AX-V is available for drift. -/
def State.vAvailable (rest : Bool) (s : State) : Bool :=
  let x := s.axis .v
  x.pos.isSome && x.st == .idle && x.order.isNone && !x.keptHome && !s.axc.held && !rest

/-- R132: the part of D that the travel holds. -/
def reachable (limit : Nat) (base d : Int) : Int := clampTo 0 limit (base + d) - base

/-- R132: the reachable drift Dr. -/
def State.reachableDrift (s : State) : Int :=
  reachable (s.axisParams .v).travelLimit ((s.base .v).getD 0) s.lnc.desired

/-- R132: D and A lie too far apart to be left uncorrected. -/
def State.driftGap (s : State) : Bool := 4 ≤ (s.reachableDrift - s.lnc.applied).natAbs

/-- R132, R135: the drift residual formed at once under the mode in force, no correction being started. D − Dr of R132 is taken
as it stands: with the V base outside 0 … travel limit it can leave the −400 … +400 of R117, the model's choice
(notes/assumptions/48.md). -/
def State.formResidual (rest : Bool) (s : State) : Int :=
  let l := s.lnc
  match l.driftMode with
  | .off => 0
  | .digital => clampTo (-400) 400 (l.desired - l.applied)
  | .motor =>
    if l.correction.isSome then l.driftResidual
    else if s.vAvailable rest = false then clampTo (-400) 400 (l.desired - l.applied)
    else if s.driftGap then l.driftResidual
    else l.desired - s.reachableDrift

/-- The drift residual formed again and handed over (R131, R134, R136). -/
def State.reformResidual (rest : Bool) (s : State) : State :=
  (s.putLens { s.lnc with driftResidual := s.formResidual rest }).handOver

/-- R136: Tcal is captured for a host V move or a slip of V, and D becomes 0. -/
def State.captureTcal (s : State) : State := s.putLens { s.lnc with tcal := s.knownBarrel, desired := 0 }

/-- R107, R136: a slip of V: A becomes 0, Tcal is captured with D at 0, and the V base is the corrected screen position at
once, also that held by a drift correction still in flight (notes/assumptions/34.md). The residual formed again is 0 under
every mode, both D and A being 0. -/
def State.slipOfV (s : State) : State :=
  let correction := s.lnc.correction.map (fun c => { c with heldBase := (s.screen .v).getD c.heldBase })
  (s.putLens { s.captureTcal.lnc with applied := 0, correction := correction, driftResidual := 0 }).handOver

/-! ## Completion (R124) -/

/-- R124: the outcome list keeps the four most recent completions. -/
def State.recordOutcome (e : OutcomeEntry) (s : State) : State :=
  let list := s.lnc.outcomes
  s.putLens { s.lnc with outcomes := (if 4 ≤ list.length then list.drop 1 else list) ++ [e] }

/-- R124: the final base position of each named axis. -/
def State.namedBases (s : State) (r : Request) : PerAxis (Option Int) :=
  { h := if r.parts.h.isSome then s.base .h else none, v := if r.parts.v.isSome then s.base .v else none }

/-- A completion: its outcome joins the list and LENS_DONE is raised. -/
def State.complete (e : OutcomeEntry) (bases : PerAxis (Option Int)) (s : State) : State :=
  (s.recordOutcome e).raise (.lensDone e bases)

/-- R124: the axis outcome of an answer to a part. -/
def axisOutcome : Part → AxisAnswer → LensOutcome
  | .move _ true _, .ok => .clamped
  | _, answer => answer.outcome

/-- R124: the worse of two outcomes, in the order OK < CLAMPED < STOPPED < SLIPPED < NOT_REFERENCED < AXIS_FAULT. -/
def worse (x y : LensOutcome) : LensOutcome := if x.code < y.code then y else x

/-- R124: the axis outcome of one axis of the executing request, once answered. -/
def Executing.outcomeOf (x : Executing) (a : AxisId) : Option LensOutcome :=
  match x.request.parts.get a, x.answers.get a with
  | some p, some answer => some (axisOutcome p answer)
  | _, _ => none

/-- R124: every named axis has answered. -/
def Executing.answered (x : Executing) : Bool :=
  (x.request.parts.h.isNone || x.answers.h.isSome) && (x.request.parts.v.isNone || x.answers.v.isSome)

/-- R124: a V move that captures Tcal at its completion. -/
def Executing.captures (x : Executing) : Bool :=
  match x.request.parts.v, x.answers.v with
  | some (.move ..), some answer =>
    (x.request.origin == .moveTo || x.request.origin == .moveBy || x.request.origin == .back)
      && (answer == .ok || answer == .stopped || answer == .slipped)
  | _, _ => false

/-- R124: the executing request completes. -/
def State.completeRequest (x : Executing) (s : State) : State :=
  let s := if x.captures then s.captureTcal else s
  let s := s.putLens { s.lnc with executing := none }
  let axes := { h := x.outcomeOf .h, v := x.outcomeOf .v }
  let outcome := worse (worse .ok (axes.h.getD .ok)) (axes.v.getD .ok)
  s.complete { tag := x.request.tag, origin := x.request.origin, outcome := outcome, axes := axes } (s.namedBases x.request)

/-- The executing request completes if every named axis has answered. -/
def State.settle (s : State) : State :=
  match s.lnc.executing with
  | some x => if x.answered then s.completeRequest x else s
  | none => s

/-! ## Execution (R122, R123, R125, R127) -/

/-- R122: whether a queue entry can start. -/
def State.canStart (s : State) (r : Request) : Bool :=
  s.lnc.executing.isNone && s.lnc.correction.isNone
    && (r.parts.h.isNone || (s.axis .h).free) && (r.parts.v.isNone || (s.axis .v).free)

/-- R125: the overrange residual of one axis at the start of a request. -/
def State.startOverrange (a : AxisId) (r : Request) (s : State) : State :=
  match r.parts.get a, (s.axis a).pos with
  | some (.move _ _ rem), some _ =>
    let x := match s.lnc.overrangeMode with
      | .digital => rem
      | .clamp => 0
    s.putLens { s.lnc with overrange := s.lnc.overrange.set a x }
  | _, _ => s

/-- R127: the drift of a recall that moves a referenced AX-V to a clamped target. -/
def State.recallDrift (target : Int) (tcal : Option Temp) (s : State) : State :=
  let dp := match tcal, s.knownBarrel with
    | some t, some s3 => driftOf s.cfg.params.kd s3 t
    | _, _ => 0
  let dr := reachable (s.axisParams .v).travelLimit target dp
  let l := { s.lnc with tcal := tcal, desired := dp }
  s.putLens
    (match l.driftMode with
     | .motor => { l with applied := dr, driftResidual := dp - dr }
     | .digital => { l with applied := 0, driftResidual := dp }
     | .off => { l with applied := 0, driftResidual := 0 })

/-- R123: the drift at the start of a request, by origin; no drift is changed for a V that is not referenced. -/
def State.startDrift (r : Request) (s : State) : State :=
  match r.parts.v, (s.axis .v).pos with
  | some (.move t _ _), some _ =>
    match r.origin with
    | .recall => s.recallDrift t (r.preset.bind (fun p => p.tcal))
    | _ => s.putLens { s.lnc with applied := 0, driftResidual := 0 }
  | some .home, some _ => s.putLens { s.lnc with applied := 0 }
  | _, _ => s

/-- R123: one axis is given its order; an answer it gives at once is recorded. -/
def State.giveOrder (a : AxisId) (r : Request) (s : State) : State :=
  match r.parts.get a with
  | none => s
  | some .home => s.homeOrder a .request
  | some (.move t _ _) =>
    let (s, answer) := s.moveOrder a (if a = .v then t + s.lnc.applied else t)
    s.putLens
      { s.lnc with executing := s.lnc.executing.map (fun x => { x with answers := x.answers.set a answer }) }

/-- R123: a request starts: recall geometry, residuals and drift, then the orders of both axes. -/
def State.startRequest (r : Request) (s : State) : State :=
  let s := s.putLens { s.lnc with executing := some { request := r, answers := { h := none, v := none } } }
  let s := match r.preset.bind (fun p => p.geometry) with
    | some g => s.setGeometry g.keystone g.zoom
    | none => s
  let s := (((s.startOverrange .h r).startOverrange .v r).startDrift r).handOver
  (s.giveOrder .h r).giveOrder .v r

/-- R122: the queue is served in order, at most `n` entries being started. -/
def State.serve : Nat → State → State
  | 0, s => s
  | n + 1, s =>
    match s.lnc.queue with
    | [] => s
    | r :: rest =>
      if s.canStart r then State.serve n ((s.putLens { s.lnc with queue := rest }).startRequest r).settle else s

def State.serveQueue (s : State) : State := s.serve s.lnc.queue.length

/-! ## Answers of the axes (R124, R134) -/

/-- R134: a drift correction completes. -/
def State.completeCorrection (c : Correction) (answer : AxisAnswer) (s : State) : State :=
  let s := s.putLens { s.lnc with correction := none }
  match answer with
  | .ok | .stopped =>
    let s := s.putLens { s.lnc with applied := (s.screen .v).getD c.heldBase - c.heldBase }
    s.reformResidual s.hli.rest
  | _ => s

/-- LNC takes the answer of an axis: the drift correction's, or the executing request's; then R122 is checked. -/
def State.deliver (a : AxisId) (answer : Option AxisAnswer) (s : State) : State :=
  match answer with
  | none => s
  | some ans =>
    let s := match a, s.lnc.correction with
      | .v, some c => s.completeCorrection c ans
      | _, _ =>
        match s.lnc.executing with
        | some x =>
          if (x.request.parts.get a).isSome ∧ (x.answers.get a).isNone then
            s.putLens { s.lnc with executing := some { x with answers := x.answers.set a (some ans) } }
          else s
        | none => s
    let s := if a = .v ∧ ans = .slipped then s.slipOfV else s
    s.settle.serveQueue

/-- An axis operation whose answer goes to LNC. -/
def State.andDeliver (a : AxisId) (r : State × Option AxisAnswer) : State := r.1.deliver a r.2

/-- A halt order of LNC to an axis (R105, R130, R133). -/
def State.halt (a : AxisId) (s : State) : State := State.andDeliver a (s.haltOrder a)

/-! ## Stopping (R130) -/

/-- R130: a queue entry completes with outcome STOPPED. No axis has answered it, and the outcome of each axis it names is
recorded as STOPPED: the model's choice (notes/assumptions/37.md). -/
def State.stopEntry (s : State) (r : Request) : State :=
  let axis (p : Option Part) : Option LensOutcome := p.map (fun _ => .stopped)
  s.complete
    { tag := r.tag, origin := r.origin, outcome := .stopped, axes := { h := axis r.parts.h, v := axis r.parts.v } }
    (s.namedBases r)

/-- R130: every queue entry completes, oldest first, and the queue becomes empty. -/
def State.stopQueue (s : State) : State :=
  let entries := s.lnc.queue
  entries.foldl State.stopEntry (s.putLens { s.lnc with queue := [] })

/-- R130: whether LNC halts an axis: an axis of the executing request that has not answered, V under a drift correction, or
a start-up homing or kept HOME that is no part of a request. -/
def State.inHand (s : State) (a : AxisId) : Bool :=
  (match s.lnc.executing with
   | some x => (x.request.parts.get a).isSome && (x.answers.get a).isNone
   | none => false)
  || (a == .v && s.lnc.correction.isSome) || (s.axis a).order == some (.home .start)

def State.haltInHand (a : AxisId) (s : State) : State := if s.inHand a then s.halt a else s

/-- R130: everything LNC has in hand is stopped. AX-H is halted before AX-V: the model's choice (notes/assumptions/13.md). -/
def State.stopAll (s : State) : State := (s.stopQueue.haltInHand .h).haltInHand .v

/-- R130: the number of requests a LENS_STOP stops. An executing request that an earlier LENS_STOP has halted already counts again:
the model's choice (notes/assumptions/37.md). -/
def LncBlock.inHandCount (l : LncBlock) : Nat := l.queue.length + (if l.executing.isSome then 1 else 0)

/-! ## The queue and the history (R118, R126, R128, R129) -/

/-- R118: a request is queued, and R122 is checked. -/
def State.enqueue (r : Request) (s : State) : State :=
  (s.putLens { s.lnc with queue := s.lnc.queue ++ [r] }).serveQueue

def LncBlock.queueFull (l : LncBlock) : Bool := 4 ≤ l.queue.length

/-- R128: a push: the oldest entry is dropped first where the stack holds six. -/
def pushHistory (e : PerAxis (Option Int)) (stack : List (PerAxis (Option Int))) : List (PerAxis (Option Int)) :=
  e :: stack.take 5

/-- R126, R129: the parts of an entry that moves each present axis to a stored position. -/
def State.movesTo (s : State) (p : PerAxis (Option Int)) : PerAxis (Option Part) :=
  { h := p.h.map (s.clampTarget .h), v := p.v.map (s.clampTarget .v) }

/-! ## Period end: motor-driver heat and drift (R108 to R112, R131 to R135) -/

/-- The working value of S5. -/
def State.driverTemp (s : State) : Temp := (s.working .s5).getD (s.chanParams .s5).warning

/-- R111: motion hold ends: both axes take up their kept orders, and then answer. -/
def State.endHoldCondition (s5 : Temp) (s : State) : State :=
  let effects := s.holdEffects
  let s := s.putConditions s.axc.forced false
  let (s, ansH) := s.resumeAxis .h
  let (s, ansV) := s.resumeAxis .v
  ((s.raise (.motionHeld false s5 effects)).deliver .h ansH).deliver .v ansV

/-- R109, R111, R133: the motion hold check of a period end. A correction in flight is halted upon the entry. -/
def State.holdCheck (s5 : Temp) (s : State) : State :=
  if s.axc.held then
    if s5 < s.cfg.params.motorHold - 30 then s.endHoldCondition s5 else s
  else if s.cfg.params.motorHold ≤ s5 then
    let s := s.enterHoldCondition s5
    if s.lnc.correction.isSome then s.halt .v else s
  else s

/-- R108, R109: the motor-driver checks of a period end. -/
def State.driverChecks (s : State) : State :=
  let s5 := s.driverTemp
  (s.forcedCheck s5).holdCheck s5

/-- R133: a drift correction starts toward an aim, where no request is queued or executing and none is in flight. The aim is
recorded as it is, and the order clamps the target that the held base and the aim make (R3, notes/assumptions/34.md). -/
def State.startCorrection (aim : Int) (s : State) : State :=
  match s.base .v with
  | some b =>
    if s.lnc.correction.isNone ∧ s.lnc.executing.isNone ∧ s.lnc.queue.isEmpty then
      let s := s.putLens { s.lnc with correction := some { heldBase := b, aim := aim } }
      State.andDeliver .v (s.moveOrder .v (b + aim))
    else s
  | none => s

/-- R131 steps 1 and 2: Tcal capture and the desired drift. -/
def State.desireDrift (s : State) : State :=
  match s.knownBarrel with
  | some s3 =>
    let t := s.lnc.tcal.getD s3
    s.putLens { s.lnc with tcal := some t, desired := driftOf s.cfg.params.kd s3 t }
  | none => s

/-- R131: a request naming V is executing. -/
def LncBlock.executesV (l : LncBlock) : Bool :=
  match l.executing with
  | some x => x.request.parts.v.isSome
  | none => false

/-- R131 to R133, R135: the drift evaluation of a period end, Rest being in force or not at its start. -/
def State.driftEvaluation (rest : Bool) (s : State) : State :=
  let s := s.desireDrift
  if s.lnc.executesV then s
  else
    let available := s.vAvailable rest
    let gap := s.driftGap
    let aim := s.reachableDrift
    let s := s.reformResidual rest
    match s.lnc.driftMode with
    | .motor => if available && gap then s.startCorrection aim else s
    | .digital | .off => if available && s.lnc.applied != 0 then s.startCorrection 0 else s

end Sys2Proof.Machine
end

