-- ==== Sys2Proof/Machine/AxisCommands.lean ====
section
/-! DEFINITION. The axis controllers' commands: AXIS_STEP, ENERGISE_EXPIRY, HOLD_STAGE_EXPIRY, ENDSTOP_CHANGE. -/

namespace Sys2Proof.Machine

/-- AXIS_STEP (R95): the axis's next step, with the end-stop level tested after it. -/
def execAxisStep (axis : AxisId) (endstop : Bool) (s : State) : Host.Outcome State Fault Refusal :=
  s.perform fun s => State.andDeliver axis (s.axisSteps axis endstop)

/-- ENERGISE_EXPIRY (R99). -/
def execEnergiseExpiry (axis : AxisId) (s : State) : Host.Outcome State Fault Refusal :=
  s.perform fun s => s.expire (s.axis axis).energiseDue (fun s => State.andDeliver axis (s.energiseEnds axis))

/-- HOLD_STAGE_EXPIRY (R96). -/
def execHoldStageExpiry (axis : AxisId) (s : State) : Host.Outcome State Fault Refusal :=
  s.perform fun s => s.expire (s.axis axis).holdDue (State.holdStageEnds axis)

/-- The level of an end-stop input, kept while RESET_n is low. -/
def State.noteEndstop (axis : AxisId) (endstop : Bool) (s : State) : State :=
  s.putAxis axis { s.axis axis with endstop := endstop }

/-- ENDSTOP_CHANGE (R107, R136): a slip of V sets the drift back. -/
def execEndstopChange (axis : AxisId) (endstop : Bool) (s : State) : Host.Outcome State Fault Refusal :=
  s.performIn (State.noteEndstop axis endstop) fun s =>
    let (s, slipped) := s.endstopChanges axis endstop
    if slipped ∧ axis = .v then s.slipOfV else s

end Sys2Proof.Machine
end

