-- ==== Sys2Proof/Machine/HostLink.lean ====
section
/-! DEFINITION. The host link interface (R188 to R202): transactions, the taking of a request frame, Rest's conditions and entry,
and the counters. -/

namespace Sys2Proof.Machine

def State.putHost (h : HliBlock) (s : State) : State := { s with hli := h }

/-! ## Transactions (R188, R189) -/

/-- R189: the first `n` bytes the part sends in a transaction: the response frame, then 00h. -/
def Response.sent (r : Response) (n : Nat) : List Byte := (r.bytes ++ List.replicate (n - r.bytes.length) 0x00#8).take n

/-- The host link's select line is deasserted. -/
def State.lineIdle (s : State) : State := s.putHost { s.hli with line := .idle }

/-- R190: a complete request frame of a kind: STARTING while READY is deasserted; else Rest ends, and the request acts. -/
def State.takeRequest (kind : Byte) (act : State → State) (s : State) : State :=
  if s.hli.ready then act s.endRest else s.respondTo kind .starting []

/-- R189: a frame refused with FRAME. It ends Rest (R199). -/
def State.refuseFrame (kind : Byte) (s : State) : State := s.endRest.respondTo kind .invalid (reasonBytes [.frame])

/-- R188, R189: the end of a transaction that carried a request frame with `size` payload bytes. A transaction cut off by
RESET_n takes no request. -/
def State.takeFrame (kind : Byte) (size : Nat) (act : State → State) (s : State) : State :=
  if s.hli.line = .cut then s.lineIdle
  else if 60 < size then s.lineIdle.refuseFrame kind
  else s.lineIdle.takeRequest kind act

/-- The meaning of a request of the table of kinds. While RESET_n is low only the line takes the end of the transaction. -/
def State.performRequest (kind : Kind) (payload : List Byte) (act : State → State) (s : State) :
    Host.Outcome State Fault Refusal :=
  s.performIn State.lineIdle (State.takeFrame kind.code payload.length act)

/-! ## Rest (R197, R198) -/

/-- R197: the reasons of the conditions that fail, in the order of the table. -/
def State.restReasons (s : State) : List Reason :=
  (if s.tsv.regime = .normal then [] else [.regime])
    ++ (if s.tsv.runOn.isNone then [] else [.runOn])
    ++ (if [s.axis .h, s.axis .v].any (fun x => x.st.inMotion || x.st == .suspended || x.keptHome) then [.axis] else [])
    ++ (if s.lnc.queue.isEmpty && s.lnc.executing.isNone then [] else [.lens])
    ++ (if s.lnc.correction.isNone then [] else [.drift])
    ++ (if s.mse.build.isNone then [] else [.mesh])
    ++ (match s.sto.st with | .programming _ => [.store] | _ => [])
    ++ (if s.fan.test.run.isNone then [] else [.fanTest])

/-- R198: the entry into Rest. -/
def State.enterRest (s : State) : State :=
  let s := s.putHost { s.hli with rest := true }
  (s.fansRest.restAxis .h).restAxis .v

/-! ## RESTART (R201) -/

/-- R201: the reasons of the conditions that fail. -/
def State.restartReasons (s : State) : List Reason :=
  let atRest (x : Axis) : Bool := (x.st == .idle || x.st == .unreferenced || x.st == .fault) && !x.keptHome
  (if atRest (s.axis .h) && atRest (s.axis .v) then [] else [.axis])
    ++ (if s.lnc.queue.isEmpty && s.lnc.executing.isNone then [] else [.lens])

/-! ## Counters (R195) -/

/-- R195: the counters in the order of the frame layout table. -/
def State.counters (s : State) : List Nat :=
  FanId.list.map (fun f => (s.fanOf f).stallCount) ++ FanId.list.map (fun f => (s.fanOf f).mismatch)
    ++ AxisId.list.map (fun a => (s.axis a).slipCount) ++ [s.lel.frameErrors]

/-- R195: every one of them is set to 0. -/
def State.clearCounters (s : State) : State :=
  { s with
    fan := { s.fan with fans := s.fan.fans.mapWith (fun _ x => { x with stallCount := 0, mismatch := 0 }) }
    axc := { s.axc with axes := s.axc.axes.map (fun x => { x with slipCount := 0 }) }
    lel := { s.lel with frameErrors := 0 } }

end Sys2Proof.Machine
end

