-- ==== Sys2Proof/Machine/FanCommands.lean ====
section
/-! DEFINITION. The fan controller's commands: SPINUP_EXPIRY, KICK_EXPIRY, ALLOWANCE_TAIL_EXPIRY, TEST_STEP_END, TACH_PULSE,
SET_ACOUSTIC, FAN_FORCE, FAN_RELEASE, FAN_TEST, CLEAR_FAN. -/

namespace Sys2Proof.Machine

/-- SPINUP_EXPIRY (R30, R43, R44). -/
def execSpinupExpiry (fan : FanId) (s : State) : Host.Outcome State Fault Refusal :=
  s.perform fun s => s.expire (s.fanOf fan).spinupDue (State.spinupEnds fan)

/-- KICK_EXPIRY (R42). -/
def execKickExpiry (fan : FanId) (s : State) : Host.Outcome State Fault Refusal :=
  s.perform fun s => s.expire (s.fanOf fan).kickDue (State.kickEnds fan)

/-- ALLOWANCE_TAIL_EXPIRY (R35). -/
def execAllowanceTailExpiry (s : State) : Host.Outcome State Fault Refusal :=
  s.perform fun s => s.expire s.fan.tailDue State.tailEnds

/-- TEST_STEP_END (R49): a step lasts 3 s. -/
def execTestStepEnd (s : State) : Host.Outcome State Fault Refusal :=
  s.perform fun s =>
    match s.fan.test.run with
    | some r => (s.clockTo (r.start + 3000)).testStepEnds r
    | none => s

/-- TACH_PULSE (R41, R49). -/
def execTachPulse (fan : FanId) (s : State) : Host.Outcome State Fault Refusal :=
  s.perform (State.countPulse fan)

/-- R34: the profile in force. -/
def State.setAcoustic (p : Profile) (s : State) : State := { s with fan := { s.fan with profile := p } }.lowerToCaps

/-- SET_ACOUSTIC (R34). -/
def execSetAcoustic (payload : List Byte) (s : State) : Host.Outcome State Fault Refusal :=
  s.performRequest .setAcoustic payload fun s =>
    s.withForm .setAcoustic (parse1 payload) fun n s =>
      match Profile.ofCode n with
      | some p => (s.setAcoustic p).respond .setAcoustic .ok []
      | none => s.respond .setAcoustic .invalid []

/-- FAN_FORCE (R46). -/
def execFanForce (payload : List Byte) (s : State) : Host.Outcome State Fault Refusal :=
  s.performRequest .fanForce payload fun s =>
    s.withForm .fanForce (parseFanForce payload) fun (n, duty) s =>
      match FanId.ofIndex n with
      | none => s.respond .fanForce .invalid []
      | some f =>
        if s.fan.test.run.isSome then s.respond .fanForce .busy []
        else if s.tsv.regime ≠ .normal then s.refuse .fanForce .conditions [.regime]
        else if (s.fanOf f).st = .failed then s.refuse .fanForce .conditions [.fanFailed]
        else
          let taken := overrideDuty (s.fanParams f).minDuty duty
          (s.forceFan f taken).respond .fanForce (if taken = duty then .ok else .okClamped) (u16 taken)

/-- FAN_RELEASE (R47). -/
def execFanRelease (payload : List Byte) (s : State) : Host.Outcome State Fault Refusal :=
  s.performRequest .fanRelease payload fun s =>
    s.withForm .fanRelease (parse1 payload) fun n s =>
      match parseFans n with
      | some fans => (fans.foldl (fun s f => s.releaseFan f) s).respond .fanRelease .ok []
      | none => s.respond .fanRelease .invalid []

/-- FAN_TEST (R48). -/
def execFanTest (payload : List Byte) (s : State) : Host.Outcome State Fault Refusal :=
  s.performRequest .fanTest payload fun s =>
    s.withForm .fanTest (parse0 payload) fun _ s =>
      if s.fan.test.run.isSome then s.respond .fanTest .busy []
      else if s.tsv.regime = .emergency ∨ s.lightReportedOn then
        s.refuse .fanTest .conditions (if s.tsv.regime = .emergency then [.regime] else [])
      else s.startTest.respond .fanTest .accepted []

/-- CLEAR_FAN (R45). -/
def execClearFan (payload : List Byte) (s : State) : Host.Outcome State Fault Refusal :=
  s.performRequest .clearFan payload fun s =>
    s.withForm .clearFan (parse1 payload) fun n s =>
      match parseFans n with
      | some fans => (fans.foldl (fun s f => s.clearFan f) s).respond .clearFan .ok []
      | none => s.respond .clearFan .invalid []

end Sys2Proof.Machine
end

