-- ==== Sys2Proof/Machine/Mesh.lean ====
section
/-! DEFINITION. The mesh computation, stages 5 to 8 (R150 to R154), and the scaler window (R160). The rational arithmetic of
the rules is worked in whole numbers: corners in 1/1024 pixel, every coefficient of the projective map multiplied by the
map's `den`. The common factors cancel in each quotient of R151. -/

namespace Sys2Proof.Machine

/-- The adjugate of R151, up to one common positive factor. -/
structure Adjugate where
  a11 : Int
  a12 : Int
  a13 : Int
  a21 : Int
  a22 : Int
  a23 : Int
  a31 : Int
  a32 : Int
  a33 : Int
  deriving DecidableEq, Repr

/-- R150 and R151: the map of the unit square onto a quad, inverted by its adjugate. -/
def Quad.adjugate (q : Quad) : Adjugate :=
  let x0 := q.tl.x; let y0 := q.tl.y
  let x1 := q.tr.x; let y1 := q.tr.y
  let x2 := q.br.x; let y2 := q.br.y
  let x3 := q.bl.x; let y3 := q.bl.y
  let sx := x0 - x1 + x2 - x3
  let sy := y0 - y1 + y2 - y3
  let dx1 := x1 - x2
  let dx2 := x3 - x2
  let dy1 := y1 - y2
  let dy2 := y3 - y2
  let den := dx1 * dy2 - dx2 * dy1
  let g := sx * dy2 - dx2 * sy
  let h := dx1 * sy - sx * dy1
  let a := (x1 - x0) * den + g * x1
  let b := (x3 - x0) * den + h * x3
  let c := x0 * den
  let d := (y1 - y0) * den + g * y1
  let e := (y3 - y0) * den + h * y3
  let f := y0 * den
  { a11 := e * den - f * h, a12 := c * h - b * den, a13 := b * f - c * e,
    a21 := f * g - d * den, a22 := a * den - c * g, a23 := c * d - a * f,
    a31 := d * h - e * g, a32 := b * g - a * h, a33 := a * e - b * d }

/-- R152: a source coordinate: full × n / w, n first clamped to 0 … w, rounded with a half rounded up. -/
def sourceCoordinate (full : Int) (n w : Int) : Nat := (roundHalfUp (full * clampTo 0 w n) w.toNat).toNat

/-- R152: the node of the panel point (x, y), in 1/1024 pixel, given u·w, v·w and w with w brought above 0. -/
def nodeOf (u v w : Int) : Node :=
  if w = 0 then { sx := 0, sy := 0, outside := true }
  else
    let k := if w < 0 then -1 else 1
    let u := k * u
    let v := k * v
    let w := k * w
    { sx := sourceCoordinate 30720 u w, sy := sourceCoordinate 17280 v w,
      outside := !(0 ≤ u && u ≤ w && 0 ≤ v && v ≤ w) }

/-- R152: screen node (c, r). -/
def screenNode (m : Adjugate) (c r : Nat) : Node :=
  let x : Int := 240 * 1024 * c
  let y : Int := 216 * 1024 * r
  nodeOf (m.a11 * x + m.a12 * y + m.a13) (m.a21 * x + m.a22 * y + m.a23) (m.a31 * x + m.a32 * y + m.a33)

/-- R153: panel node (c, r) in an orientation. -/
def panelNode (m : Adjugate) (o : Orientation) (c r : Nat) : Node :=
  match o with
  | .table => screenNode m c r
  | .ceiling => screenNode m (16 - c) (10 - r)

/-- R154: the 187 nodes in row-major panel order. -/
def meshNodes (q : Quad) (o : Orientation) : List Node :=
  let m := q.adjugate
  (List.range 187).map (fun k => panelNode m o (k % 17) (k / 17))

/-- R160: the value that makes bytes 0 to 7 of the header sum to 0 modulo 256. -/
def headerCheck (bytes : List Byte) : Nat := (256 - (bytes.map BitVec.toNat).sum % 256) % 256

/-- R160: bytes 0 to 6 of a header. -/
def Header.front (h : Header) : List Byte :=
  u16 h.seq ++ u8 h.bank.code ++ u8 h.orientation.code ++ u8 h.flags ++ u8 h.outsideCount ++ u8 h.nodeCount

/-- R160: bytes 0 to 7. -/
def Header.bytes (h : Header) : List Byte := h.front ++ u8 h.check

/-- R154: the header of a completed mesh. -/
def Header.complete (seq : Nat) (bank : Bank) (snap : Snapshot) (nodes : List Node) : Header :=
  let h : Header :=
    { seq := seq, bank := bank, orientation := snap.orientation, identity := snap.comp.identity, clipped := snap.comp.clipped,
      outsideCount := nodes.countP (fun n => n.outside), nodeCount := 187, check := 0 }
  { h with check := headerCheck h.front }

/-- R154: stage 8. -/
def Mesh.complete (seq : Nat) (bank : Bank) (snap : Snapshot) : Mesh :=
  let nodes := meshNodes snap.comp.quad snap.orientation
  let h := Header.complete seq bank snap nodes
  { header := h, nodes := nodes, duplicate := h }

/-- R154: the number after a sequence number: 1 to 65535, then 1 again. -/
def nextSequence (counter : Nat) : Nat := if counter = 65535 then 1 else counter + 1

/-- R160: the four bytes of a node. -/
def Node.bytes (n : Node) : List Byte := u16 (n.sx + if n.outside then 32768 else 0) ++ u16 n.sy

/-- R160: the 764 bytes of a bank. -/
def Mesh.bytes (m : Mesh) : List Byte := m.header.bytes ++ m.nodes.flatMap Node.bytes ++ m.duplicate.bytes

/-- R160, R163: the byte at a window address, 00h beyond the mesh and beyond the window. -/
def Mesh.byteAt (m : Mesh) (address : Nat) : Byte := (m.bytes[address]?).getD 0x00#8

end Sys2Proof.Machine
end

