-- ==== Sys2Proof/Machine/Scaler.lean ====
section
/-! DEFINITION. The scaler port (R159 to R173): read bursts, bank swaps and sync absence, and the completion of a build. -/

namespace Sys2Proof.Machine

def State.putScaler (p : ScpBlock) (s : State) : State := { s with scp := p }

/-! ## Swaps (R165 to R170) -/

/-- R166, R170: the READY bank becomes live. -/
def State.swap (cause : SwapCause) (s : State) : State :=
  let now := s.scp.live.other
  let p := ((s.scp.withState s.scp.live .spare).withState now .live)
  (s.putScaler { p with live := now, swapPending := false }).raise (.meshLive (s.scp.meshOf now).header cause)

/-- The bank that is not live is READY. -/
def ScpBlock.otherReady (p : ScpBlock) : Bool := p.stateOf p.live.other == .ready

/-- R167: a pending swap at the end of a burst. -/
def State.takePendingSwap (s : State) : State :=
  if s.scp.swapPending then
    if s.scp.otherReady then s.swap .burstEnd else s.putScaler { s.scp with swapPending := false }
  else s

/-- R163: a burst is in progress. -/
def ScpBlock.burst? (p : ScpBlock) : Bool :=
  match p.line with
  | .burst .. => true
  | _ => false

/-- R168, R169: a swap for want of FRAME_SYNC: at once, or pending behind a burst. -/
def State.swapWithoutSync (s : State) : State :=
  if s.scp.otherReady then
    if s.scp.burst? then s.putScaler { s.scp with swapPending := true } else s.swap .syncAbsent
  else s

/-! ## Bursts (R163, R164) -/

/-- R163: the reply to one byte clocked in a burst from a bank, and how far the burst has come after it. -/
def burstByte (mesh : Mesh) (byte : Byte) : BurstPhase → Byte × BurstPhase
  | .command => (0x00#8, if byte = 0x6D#8 then .addressHigh else .ignored)
  | .addressHigh => (0x00#8, .addressLow byte.toNat)
  | .addressLow high => (0x00#8, .data (high * 256 + byte.toNat))
  | .data next => (mesh.byteAt next, .data (next + 1))
  | .ignored => (0x00#8, .ignored)

/-- R163: the replies to a run of bytes, appended to those sent before. -/
def burstBytes (mesh : Mesh) : List Byte → BurstPhase → List Byte → List Byte × BurstPhase
  | [], phase, sent => (sent, phase)
  | b :: rest, phase, sent => burstBytes mesh rest (burstByte mesh b phase).2 (sent ++ [(burstByte mesh b phase).1])

/-- R163, R164: the scaler clocks bytes: in a burst they advance it; outside one each is answered 00h. -/
def ScpBlock.clock (bytes : List Byte) (p : ScpBlock) : ScpBlock :=
  match p.line with
  | .burst bank phase due =>
    let (sent, phase) := burstBytes (p.meshOf bank) bytes phase p.sent
    { p with line := .burst bank phase due, sent := sent }
  | _ => { p with sent := p.sent ++ bytes.map (fun _ => 0x00#8) }

/-- R163: select is asserted: a burst begins. -/
def State.beginBurst (clocked : List Byte) (s : State) : State :=
  s.putScaler { s.scp with line := .burst s.scp.live .command (s.now + 20), sent := [] }
    |> fun s => s.putScaler (s.scp.clock clocked)

/-- R164: a burst ends, leaving the line as given. -/
def State.endBurst (line : ScalerLine) (s : State) : State := (s.putScaler { s.scp with line := line }).takePendingSwap

/-- R164: select is deasserted. -/
def State.deselect (clocked : List Byte) (s : State) : State :=
  let s := s.putScaler (s.scp.clock clocked)
  match s.scp.line with
  | .burst .. => s.endBurst .idle
  | _ => s.putScaler { s.scp with line := .idle }

/-! ## FRAME_SYNC and its absence (R165, R168) -/

/-- R165: a rising edge of FRAME_SYNC. -/
def State.syncEdge (s : State) : State :=
  let s := s.putScaler { s.scp with syncAbsent := false, syncDue := some (s.now + 100) }
  if s.scp.burst? then s.putScaler { s.scp with swapPending := true }
  else if s.scp.otherReady then s.swap .frameSync
  else s

/-- R168: the sync-absent timer expires. -/
def State.syncLost (s : State) : State :=
  (s.putScaler { s.scp with syncAbsent := true, syncDue := none }).swapWithoutSync

/-! ## The completion of a build (R154, R169) -/

/-- R154: the mesh of a build is written into its bank, which becomes READY, under the next sequence number. -/
def State.completeBuild (b : Build) (s : State) : State :=
  let n := nextSequence s.mse.counter
  let s := { s with
    mse := { build := none, counter := n }
    scp := (s.scp.withMesh b.target (.complete n b.target b.snapshot)).withState b.target .ready }
  if s.scp.syncAbsent then s.swapWithoutSync else s

/-! ## RESTART (R148, R173) -/

/-- R173: the scaler port at a RESTART. -/
def ScpBlock.restart (now : Nat) (p : ScpBlock) : ScpBlock :=
  { p.withState p.live.other .spare with swapPending := false, syncAbsent := false, syncDue := some (now + 100) }

/-! ## MESH_PEEK (R171) -/

/-- R171: the answer to a peek of the live bank. -/
def State.peekBytes (first count : Nat) (s : State) : List Byte :=
  let m := s.scp.meshOf s.scp.live
  let nodes := (m.nodes.drop first).take count
  u16 m.header.seq ++ u8 m.header.bank.code ++ u8 m.header.orientation.code ++ u8 m.header.flags
    ++ u8 m.header.outsideCount ++ u8 first ++ u8 nodes.length ++ nodes.flatMap Node.bytes

end Sys2Proof.Machine
end

