-- ==== Sys2Proof/Machine/GeometryCommands.lean ====
section
/-! DEFINITION. The commands of the geometry unit and the mesh engine: SET_KEYSTONE, SET_ZOOM, BUILD_COMPLETE. -/

namespace Sys2Proof.Machine

/-- SET_KEYSTONE (R140). -/
def execSetKeystone (payload : List Byte) (s : State) : Host.Outcome State Fault Refusal :=
  s.performRequest .setKeystone payload fun s =>
    match takeKeystone payload with
    | .badForm => s.respond .setKeystone .invalid []
    | .fits k [] =>
      (s.setGeometry k.clamp s.geo.zoom).respond .setKeystone (if k.inRange then .ok else .okClamped) k.clamp.bytes
    | _ => s.refuse .setKeystone .invalid [.form]

/-- SET_ZOOM (R141). -/
def execSetZoom (payload : List Byte) (s : State) : Host.Outcome State Fault Refusal :=
  s.performRequest .setZoom payload fun s =>
    s.withForm .setZoom (parse2 payload) fun z s =>
      (s.setGeometry s.geo.keystone (clampZoom z)).respond .setZoom (if clampZoom z = z then .ok else .okClamped)
        (u16 (clampZoom z))

/-- BUILD_COMPLETE (R154, R169): it falls only while a build is in flight. -/
def execBuildComplete (s : State) : Host.Outcome State Fault Refusal :=
  s.perform fun s =>
    match s.mse.build with
    | some b => s.completeBuild b
    | none => s

end Sys2Proof.Machine
end

