-- ==== Sys2Proof/Machine/Records.lean ====
section
/-! DEFINITION. The records of the settings store: the fields of the store field table (R175, R176), each with its code, its
instances, its value form and its range; the checks of an installation record (R9). A field is written whole or not at
all. -/

namespace Sys2Proof.Machine

/-! ## Ranges (R6 to R8, R176) -/

def within (low high : Nat) (x : Nat) : Bool := low ≤ x && x ≤ high

def withinTemp (low high : Temp) (x : Temp) : Bool := low ≤ x && x ≤ high

/-- R6: release time 0, or 5 to 600 s. -/
def releaseInRange (x : Nat) : Bool := x == 0 || within 5 600 x

def GoverningEntry.inRange (e : GoverningEntry) : Bool := withinTemp (-200) 200 e.offset

def Breakpoint.inRange (b : Breakpoint) : Bool := withinTemp (-300) 1400 b.temp && b.duty ≤ 1000

def governingInRange (g : List GoverningEntry) : Bool := within 1 4 g.length && g.all GoverningEntry.inRange

def curveInRange (c : List Breakpoint) : Bool := within 2 6 c.length && c.all Breakpoint.inRange

/-- R7: 0 to 4 distinct channels. -/
def derateSetInRange (d : List Chan) : Bool := d.length ≤ 4 && d.eraseDups == d

def AxisParams.inRange (p : AxisParams) : Bool :=
  within 1000 20000 p.travelLimit && p.backlash ≤ 255 && within 100 1200 p.topSpeed && within 100 10000 p.acceleration
    && p.pixelsPerStep ≤ 1024 && within 500 10000 p.holdTime && releaseInRange p.releaseTime

def ChannelParams.inRange (p : ChannelParams) : Bool :=
  withinTemp 200 1300 p.warning && withinTemp 250 1400 p.critical && withinTemp 200 1300 p.derate

def FanParams.inRange (p : FanParams) : Bool :=
  within 100 500 p.minDuty && within 1000 6000 p.fullSpeed && governingInRange p.governing && curveInRange p.curveT
    && curveInRange p.curveC && within 100 1000 p.capQuiet && within 100 1000 p.capStandard && within 100 1000 p.capHigh

/-- Every field of an installation record lies in its range (R2, R6 to R8). -/
def Install.inRange (p : Install) : Bool :=
  p.axes.h.inRange && p.axes.v.inRange && (-128 ≤ p.kd && p.kd ≤ 127)
    && Chan.list.all (fun c => (p.channels.get c).inRange) && derateSetInRange p.derateSet
    && withinTemp 400 1200 p.motorReduce && withinTemp 450 1250 p.motorHold && withinTemp 300 700 p.runOnRelease
    && FanId.list.all (fun f => (p.fans.get f).inRange) && p.motionAllowance ≤ 1000 && within 300 1000 p.fanLossCeiling

/-- Every field of a working-settings record lies in its range (R177). -/
def Working.inRange (w : Working) : Bool := within 300 1000 w.lightMode && w.keystone.inRange && within 768 1024 w.zoom

/-! ## The checks of an installation record (R9) -/

/-- A failed check of R9. The index of CURVE_ORDER counts breakpoints from 0. -/
inductive RecordFault where
  | curveOrder (fan : FanId) (set : Orientation) (index : Nat)
  | thresholdOrder (channel : Chan)
  | motorThresholdOrder
  | vRelease
  deriving DecidableEq, Repr

/-- R9 check 1: the index of the first breakpoint out of order, `i` being the index of the second breakpoint. -/
def curveFault (i : Nat) : List Breakpoint → Option Nat
  | p :: q :: rest => if q.temp ≤ p.temp || q.duty < p.duty then some i else curveFault (i + 1) (q :: rest)
  | _ => none

def Install.curveFault (p : Install) (f : FanId) (set : Orientation) : Option RecordFault :=
  let x := p.fans.get f
  (Machine.curveFault 1 (match set with | .table => x.curveT | .ceiling => x.curveC)).map (fun i => .curveOrder f set i)

/-- R9: the first check that fails, if any. -/
def Install.check (p : Install) : Option RecordFault :=
  match FanId.list.findSome? (fun f => (p.curveFault f .table).or (p.curveFault f .ceiling)) with
  | some e => some e
  | none =>
    match Chan.list.find? (fun c => (p.channels.get c).critical ≤ (p.channels.get c).warning) with
    | some c => some (.thresholdOrder c)
    | none =>
      if p.motorHold ≤ p.motorReduce then some .motorThresholdOrder
      else if p.vSelfLocking && p.axes.v.releaseTime == 0 then some .vRelease
      else none

/-- The response payload that names a failed check (R9). -/
def RecordFault.bytes : RecordFault → List Byte
  | .curveOrder f set i => reasonBytes [.curveOrder] ++ u8 f.index ++ u8 set.code ++ u8 i
  | .thresholdOrder c => reasonBytes [.thresholdOrder] ++ u8 c.index
  | .motorThresholdOrder => reasonBytes [.motorThresholdOrder]
  | .vRelease => reasonBytes [.vRelease]

/-! ## Writing and reading one field (store field table) -/

/-- What becomes of a field written: taken, no such field, or a value outside its range or form. -/
inductive FieldWrite (α : Type) where
  | taken (record : α)
  | noField
  | range

/-- A field whose value is `v` where the bytes fit its form, and is taken where it passes its range. -/
def writeField {α β : Type} (v : Option β) (ok : β → Bool) (put : β → α) : FieldWrite α :=
  match v with
  | some x => if ok x then .taken (put x) else .range
  | none => .range

/-- An on/off byte. -/
def parseOnOff (bytes : List Byte) : Option Bool :=
  match parse1 bytes with
  | some 0 => some false
  | some 1 => some true
  | _ => none

def parseSource (bytes : List Byte) : Option OrientationSource :=
  match parse1 bytes with
  | some 0 => some .strap
  | some 1 => some .table
  | some 2 => some .ceiling
  | _ => none

/-- A signed byte (kd). -/
def parseSigned1 : List Byte → Option Int
  | [x] => some x.toInt
  | _ => none

def parseChan (bytes : List Byte) : Option Chan := (parse1 bytes).bind Chan.ofIndex

def parseGoverning : List Byte → Option GoverningEntry
  | [c, x, y] => (Chan.ofIndex c.toNat).map (fun c => { channel := c, offset := signedWord x y })
  | _ => none

def parseBreakpoint : List Byte → Option Breakpoint
  | [t0, t1, d0, d1] => some { temp := signedWord t0 t1, duty := word d0 d1 }
  | _ => none

def Install.putAxisParams (p : Install) (a : AxisId) (x : AxisParams) : Install := { p with axes := p.axes.set a x }

def Install.putChanParams (p : Install) (c : Chan) (x : ChannelParams) : Install :=
  { p with channels := p.channels.set c x }

def Install.putFanParams (p : Install) (f : FanId) (x : FanParams) : Install := { p with fans := p.fans.set f x }

/-- The codes 02h to 08h of one axis. -/
def Install.writeAxis (p : Install) (code : Nat) (a : AxisId) (v : List Byte) : FieldWrite Install :=
  let x := p.axes.get a
  let put (ok : Nat → Bool) (f : Nat → AxisParams) : FieldWrite Install :=
    writeField (parse2 v) ok (fun n => p.putAxisParams a (f n))
  match code with
  | 0x02 => put (within 1000 20000) (fun n => { x with travelLimit := n })
  | 0x03 => put (within 0 255) (fun n => { x with backlash := n })
  | 0x04 => put (within 100 1200) (fun n => { x with topSpeed := n })
  | 0x05 => put (within 100 10000) (fun n => { x with acceleration := n })
  | 0x06 => put (within 0 1024) (fun n => { x with pixelsPerStep := n })
  | 0x07 => put (within 500 10000) (fun n => { x with holdTime := n })
  | 0x08 => put releaseInRange (fun n => { x with releaseTime := n })
  | _ => .noField

/-- The codes 0Ch to 0Eh of one channel. -/
def Install.writeChannel (p : Install) (code : Nat) (c : Chan) (v : List Byte) : FieldWrite Install :=
  let x := p.channels.get c
  let put (ok : Temp → Bool) (f : Temp → ChannelParams) : FieldWrite Install :=
    writeField (parseSigned2 v) ok (fun t => p.putChanParams c (f t))
  match code with
  | 0x0C => put (withinTemp 200 1300) (fun t => { x with warning := t })
  | 0x0D => put (withinTemp 250 1400) (fun t => { x with critical := t })
  | 0x0E => put (withinTemp 200 1300) (fun t => { x with derate := t })
  | _ => .noField

/-- The codes 13h to 15h of one fan. -/
def Install.writeFan (p : Install) (code : Nat) (f : FanId) (v : List Byte) : FieldWrite Install :=
  let x := p.fans.get f
  match code with
  | 0x13 => writeField (parse2 v) (within 100 500) (fun n => p.putFanParams f { x with minDuty := n })
  | 0x14 => writeField (parse2 v) (within 1000 6000) (fun n => p.putFanParams f { x with fullSpeed := n })
  | 0x15 =>
    writeField (parseList 3 parseGoverning v) governingInRange (fun g => p.putFanParams f { x with governing := g })
  | _ => .noField

/-- The code 16h: index fan × 2 + set. -/
def Install.writeCurve (p : Install) (index : Nat) (v : List Byte) : FieldWrite Install :=
  match FanId.ofIndex (index / 2) with
  | none => .noField
  | some f =>
    let x := p.fans.get f
    writeField (parseList 4 parseBreakpoint v) curveInRange
      (fun c => p.putFanParams f (if index % 2 = 0 then { x with curveT := c } else { x with curveC := c }))

/-- The code 17h: index fan × 3 + profile. -/
def Install.writeCap (p : Install) (index : Nat) (v : List Byte) : FieldWrite Install :=
  match FanId.ofIndex (index / 3) with
  | none => .noField
  | some f =>
    let x := p.fans.get f
    writeField (parse2 v) (within 100 1000)
      (fun n =>
        p.putFanParams f
          (match index % 3 with
           | 0 => { x with capQuiet := n }
           | 1 => { x with capStandard := n }
           | _ => { x with capHigh := n }))

/-- The INSTALL fields with a single instance, index 0. -/
def Install.writeSingle (p : Install) (code : Nat) (v : List Byte) : FieldWrite Install :=
  match code with
  | 0x01 => writeField (parseSource v) (fun _ => true) (fun x => { p with source := x })
  | 0x09 => writeField (parseOnOff v) (fun _ => true) (fun x => { p with vSelfLocking := x })
  | 0x0A => writeField (parseOnOff v) (fun _ => true) (fun x => { p with homeAtStart := x })
  | 0x0B => writeField (parseSigned1 v) (fun _ => true) (fun x => { p with kd := x })
  | 0x0F => writeField (parseList 1 parseChan v) derateSetInRange (fun x => { p with derateSet := x })
  | 0x10 => writeField (parseSigned2 v) (withinTemp 400 1200) (fun x => { p with motorReduce := x })
  | 0x11 => writeField (parseSigned2 v) (withinTemp 450 1250) (fun x => { p with motorHold := x })
  | 0x12 => writeField (parseSigned2 v) (withinTemp 300 700) (fun x => { p with runOnRelease := x })
  | 0x18 => writeField (parse2 v) (within 0 1000) (fun x => { p with motionAllowance := x })
  | 0x19 => writeField (parse2 v) (within 300 1000) (fun x => { p with fanLossCeiling := x })
  | _ => .noField

/-- One field of the installation record written (R180). -/
def Install.write (p : Install) (code index : Nat) (v : List Byte) : FieldWrite Install :=
  if 0x02 ≤ code ∧ code ≤ 0x08 then
    match AxisId.ofIndex index with
    | some a => p.writeAxis code a v
    | none => .noField
  else if 0x0C ≤ code ∧ code ≤ 0x0E then
    match Chan.ofIndex index with
    | some c => p.writeChannel code c v
    | none => .noField
  else if 0x13 ≤ code ∧ code ≤ 0x15 then
    match FanId.ofIndex index with
    | some f => p.writeFan code f v
    | none => .noField
  else if code = 0x16 then p.writeCurve index v
  else if code = 0x17 then p.writeCap index v
  else if index = 0 then p.writeSingle code v
  else .noField

/-- A keystone value, whole (R176). -/
def parseKeystone (bytes : List Byte) : Option Keystone :=
  match takeKeystone bytes with
  | .fits k [] => some k
  | _ => none

/-- One field of the working-settings record written. -/
def Working.write (w : Working) (code index : Nat) (v : List Byte) : FieldWrite Working :=
  if index ≠ 0 then .noField
  else
    match code with
    | 0x01 => writeField (parse2 v) (within 300 1000) (fun x => { w with lightMode := x })
    | 0x02 => writeField ((parse1 v).bind Profile.ofCode) (fun _ => true) (fun x => { w with profile := x })
    | 0x03 => writeField (parseKeystone v) Keystone.inRange (fun x => { w with keystone := x })
    | 0x04 => writeField (parse2 v) (within 768 1024) (fun x => { w with zoom := x })
    | 0x05 => writeField ((parse1 v).bind OverrangeMode.ofCode) (fun _ => true) (fun x => { w with overrangeMode := x })
    | 0x06 => writeField ((parse1 v).bind DriftMode.ofCode) (fun _ => true) (fun x => { w with driftMode := x })
    | _ => .noField

/-- A preset position: 0 … 20000, or FFFFh for absent. -/
def parsePosition (bytes : List Byte) : Option (Option Nat) :=
  (parse2 bytes).map (fun n => if n = 0xFFFF then none else some n)

/-- A preset's Tcal: a temperature, or 8000h for none. -/
def parseTcal : List Byte → Option (Option Temp)
  | [x, y] => some (thermalValue x y)
  | _ => none

/-- A preset's geometry part: form, keystone values, zoom; or FFh for absent. -/
def parseGeometryPart (bytes : List Byte) : Option (Option GeometryPart) :=
  if bytes = [0xFF#8] then some none
  else
    match takeKeystone bytes with
    | .fits k [x, y] => some (some { keystone := k, zoom := word x y })
    | _ => none

def positionInRange : Option Nat → Bool
  | some n => n ≤ 20000
  | none => true

def tcalInRange : Option Temp → Bool
  | some t => withinTemp (-300) 1400 t
  | none => true

def geometryInRange : Option GeometryPart → Bool
  | some g => g.keystone.inRange && within 768 1024 g.zoom
  | none => true

/-- R176: 0 to 12 characters, each 20h … 7Eh. -/
def nameInRange (n : List Byte) : Bool := n.length ≤ 12 && n.all (fun c => 0x20 ≤ c.toNat && c.toNat ≤ 0x7E)

/-- One byte of a name. -/
def parseChar : List Byte → Option Byte
  | [c] => some c
  | _ => none

/-- One field of a preset written. -/
def Preset.write (p : Preset) (code index : Nat) (v : List Byte) : FieldWrite Preset :=
  if index ≠ 0 then .noField
  else
    match code with
    | 0x01 => writeField (parseList 1 parseChar v) nameInRange (fun x => { p with name := x })
    | 0x02 => writeField (parsePosition v) positionInRange (fun x => { p with hPos := x })
    | 0x03 => writeField (parsePosition v) positionInRange (fun x => { p with vPos := x })
    | 0x04 => writeField (parseTcal v) tcalInRange (fun x => { p with tcal := x })
    | 0x05 => writeField (parseGeometryPart v) geometryInRange (fun x => { p with geometry := x })
    | _ => .noField

def FieldWrite.map {α β : Type} (f : α → β) : FieldWrite α → FieldWrite β
  | .taken x => .taken (f x)
  | .noField => .noField
  | .range => .range

/-- One field of a record written. -/
def RecordFields.write (r : RecordFields) (code index : Nat) (v : List Byte) : FieldWrite RecordFields :=
  match r with
  | .install p => (p.write code index v).map .install
  | .working w => (w.write code index v).map .working
  | .preset n p => (p.write code index v).map (.preset n)

/-- The value bytes of one INSTALL field, in the form of the table; `none` where there is no such field. -/
def Install.read (p : Install) (code index : Nat) : Option (List Byte) :=
  if 0x02 ≤ code ∧ code ≤ 0x08 then
    (AxisId.ofIndex index).map (fun a =>
      let x := p.axes.get a
      u16 (match code with
        | 0x02 => x.travelLimit
        | 0x03 => x.backlash
        | 0x04 => x.topSpeed
        | 0x05 => x.acceleration
        | 0x06 => x.pixelsPerStep
        | 0x07 => x.holdTime
        | _ => x.releaseTime))
  else if 0x0C ≤ code ∧ code ≤ 0x0E then
    (Chan.ofIndex index).map (fun c =>
      let x := p.channels.get c
      i16 (match code with
        | 0x0C => x.warning
        | 0x0D => x.critical
        | _ => x.derate))
  else if 0x13 ≤ code ∧ code ≤ 0x15 then
    (FanId.ofIndex index).map (fun f =>
      let x := p.fans.get f
      match code with
      | 0x13 => u16 x.minDuty
      | 0x14 => u16 x.fullSpeed
      | _ => listBytes (fun e => u8 e.channel.index ++ i16 e.offset) x.governing)
  else if code = 0x16 then
    (FanId.ofIndex (index / 2)).map (fun f =>
      let x := p.fans.get f
      listBytes (fun b => i16 b.temp ++ u16 b.duty) (if index % 2 = 0 then x.curveT else x.curveC))
  else if code = 0x17 then
    (FanId.ofIndex (index / 3)).map (fun f =>
      let x := p.fans.get f
      u16 (match index % 3 with
        | 0 => x.capQuiet
        | 1 => x.capStandard
        | _ => x.capHigh))
  else if index ≠ 0 then none
  else
    match code with
    | 0x01 => some (u8 p.source.code)
    | 0x09 => some (flag p.vSelfLocking)
    | 0x0A => some (flag p.homeAtStart)
    | 0x0B => some [BitVec.ofInt 8 p.kd]
    | 0x0F => some (listBytes (fun c => u8 c.index) p.derateSet)
    | 0x10 => some (i16 p.motorReduce)
    | 0x11 => some (i16 p.motorHold)
    | 0x12 => some (i16 p.runOnRelease)
    | 0x18 => some (u16 p.motionAllowance)
    | 0x19 => some (u16 p.fanLossCeiling)
    | _ => none

def Working.read (w : Working) (code index : Nat) : Option (List Byte) :=
  if index ≠ 0 then none
  else
    match code with
    | 0x01 => some (u16 w.lightMode)
    | 0x02 => some (u8 w.profile.code)
    | 0x03 => some w.keystone.bytes
    | 0x04 => some (u16 w.zoom)
    | 0x05 => some (u8 w.overrangeMode.code)
    | 0x06 => some (u8 w.driftMode.code)
    | _ => none

def Preset.read (p : Preset) (code index : Nat) : Option (List Byte) :=
  if index ≠ 0 then none
  else
    match code with
    | 0x01 => some (listBytes (fun c => [c]) p.name)
    | 0x02 => some (u16 (p.hPos.getD 0xFFFF))
    | 0x03 => some (u16 (p.vPos.getD 0xFFFF))
    | 0x04 => some (match p.tcal with | some t => i16 t | none => u16 0x8000)
    | 0x05 => some (match p.geometry with | some g => g.keystone.bytes ++ u16 g.zoom | none => u8 0xFF)
    | _ => none

def RecordFields.read (r : RecordFields) (code index : Nat) : Option (List Byte) :=
  match r with
  | .install p => p.read code index
  | .working w => w.read code index
  | .preset _ p => p.read code index

def RecordFields.id : RecordFields → RecordId
  | .install _ => .install
  | .working _ => .working
  | .preset n _ => .preset n

/-- The defaults of a record (store field table). -/
def RecordId.defaults : RecordId → RecordFields
  | .install => .install .factory
  | .working => .working .default
  | .preset n => .preset n .default

/-- The record image of a record, if it is valid. -/
def Images.get (i : Images) : RecordId → Option RecordFields
  | .install => i.install.map .install
  | .working => i.working.map .working
  | .preset n => (i.presets[n]).map (.preset n)

/-- The written fields applied to a record, in the order in which they stand (R182). -/
def applyStaged (fields : List StagedField) (r : RecordFields) : RecordFields :=
  fields.foldl
    (fun r f =>
      match r.write f.code.toNat f.index.toNat f.value with
      | .taken r => r
      | _ => r)
    r

/-- R9, R182: the full field set of a stage: each written field its staged value, each unwritten field its value in the
image, or its default where the image is absent. -/
def fullFieldSet (images : Images) (stage : Stage) : RecordFields :=
  applyStaged stage.fields ((images.get stage.record).getD stage.record.defaults)

end Sys2Proof.Machine
end

