-- ==== Sys2Proof/Machine/Installing.lean ====
section
/-! DEFINITION. The configuration unit (R1 to R13): the orientation in force, the taking of an installation record with its
effects on the other blocks, and the idle conditions of a commit. -/

namespace Sys2Proof.Machine

/-- R1: the orientation in force. -/
def resolveOrientation (source : OrientationSource) (strap : Orientation) : Orientation :=
  match source with
  | .strap => strap
  | .table => .table
  | .ceiling => .ceiling

/-- R2, R10, R11, R12, R5: CFG takes installation parameters, and the axes, fans and recirculation watch apply them. -/
def State.takeInstall (p : Install) (defaultsInUse : Bool) (s : State) : State :=
  let old := s.cfg
  let s := { s with cfg := { s.cfg with params := p, orientation := resolveOrientation p.source old.strap,
                                        defaultsInUse := defaultsInUse } }
  let s := s.recircOnOrientation old.orientation
  let s := (s.axisOnInstall old.params.vSelfLocking .h).axisOnInstall old.params.vSelfLocking .v
  s.fansOnInstall old.params

/-- R12: the geometry unit composes and starts a build where the orientation or a pixels-per-step value changed. -/
def State.geometryOnInstall (old : CfgBlock) (s : State) : State :=
  if s.cfg.orientation != old.orientation || s.pixelsPerStep != old.params.axes.map (fun p => p.pixelsPerStep) then
    s.compose.startBuild
  else s

/-- R10: the idle conditions of an installation commit. -/
def State.idleForInstall (s : State) : Bool :=
  (s.axis .h).free && (s.axis .v).free && s.lnc.queue.isEmpty && s.lnc.executing.isNone && s.lnc.correction.isNone
    && s.mse.build.isNone && s.fan.test.run.isNone

/-- R2: what CFG takes when loading ends: the loaded record where it is valid, in range and passes every check of R9; else the
factory defaults, with their indication. -/
def loadedInstall (image : Option Install) : Install × Bool :=
  match image with
  | some p => if p.inRange && p.check.isNone then (p, false) else (.factory, true)
  | none => (.factory, true)

end Sys2Proof.Machine
end

