-- ==== Sys2Proof/Machine/Store.lean ====
section
/-! DEFINITION. The settings store (R174 to R187): the array and its loading, the stage, and programming. -/

namespace Sys2Proof.Machine

def State.putStore (st : StoreState) (s : State) : State := { s with sto := { s.sto with st := st } }

/-! ## The array (R175) -/

/-- R175: a record loads as valid where its mark is set and its check matches its fields. -/
def Cell.load {α : Type} (c : Cell α) : Option α := if c.mark && c.check then c.fields else none

/-- R175: a programming clears the mark and writes the fields and the check. -/
def Cell.write {α : Type} (x : α) : Cell α := { mark := false, check := true, fields := some x }

/-- R177: the images formed by loading. -/
def NvArray.load (a : NvArray) : Images :=
  { install := a.install.load
    working := a.working.load.filter Working.inRange
    presets := a.presets.map Cell.load }

/-- One record of the array while it is being programmed: its mark clear (R175). -/
def NvArray.write (a : NvArray) : RecordFields → NvArray
  | .install p => { a with install := .write p }
  | .working w => { a with working := .write w }
  | .preset n p => { a with presets := a.presets.set n (.write p) }

/-- R183: the completion mark of a record, set where it reads back and left clear where it does not. -/
def NvArray.finish (a : NvArray) (readsBack : Bool) : RecordId → NvArray
  | .install => { a with install := { a.install with mark := readsBack } }
  | .working => { a with working := { a.working with mark := readsBack } }
  | .preset n => { a with presets := a.presets.set n { a.presets[n] with mark := readsBack } }

/-- R183: the image of a record becomes valid with a field set. -/
def Images.put (i : Images) : RecordFields → Images
  | .install p => { i with install := some p }
  | .working w => { i with working := some w }
  | .preset n p => { i with presets := i.presets.set n (some p) }

/-- R183: the image of a record becomes absent. -/
def Images.drop (i : Images) : RecordId → Images
  | .install => { i with install := none }
  | .working => { i with working := none }
  | .preset n => { i with presets := i.presets.set n none }

/-! ## The stage (R179, R180) -/

/-- R180: a staged value replaces the one staged for its field before. -/
def Stage.put (f : StagedField) (stage : Stage) : Stage :=
  if stage.fields.any (fun g => g.code = f.code ∧ g.index = f.index) then
    { stage with fields := stage.fields.map (fun g => if g.code = f.code ∧ g.index = f.index then f else g) }
  else { stage with fields := stage.fields ++ [f] }

/-- The staged value of a field, `none` while it is unwritten. -/
def Stage.value (stage : Stage) (code index : Byte) : Option (List Byte) :=
  (stage.fields.find? (fun g => g.code = code ∧ g.index = index)).map (fun g => g.value)

/-- The open stage, if any. -/
def StoreState.stage : StoreState → Option Stage
  | .staged stage => some stage
  | _ => none

def StoreState.programming? : StoreState → Bool
  | .programming _ => true
  | _ => false

/-! ## Programming (R183) -/

/-- R183: how long a programming takes, in ms. -/
def RecordFields.programmingTime : RecordFields → Nat
  | .install _ => 36
  | .working _ => 12
  | .preset _ _ => 10

/-- R183: a programming begins. -/
def State.startProgramming (fields : RecordFields) (written : Nat) (s : State) : State :=
  { s with sto := { s.sto with
      st := .programming { fields := fields, written := written, due := s.now + fields.programmingTime, thenLoading := false }
      array := s.sto.array.write fields } }

/-- R183, R178: a programming ends, its read-back matching or not; a waiting RESTART then has the store load. -/
def State.endProgramming (readsBack : Bool) (p : Programming) (s : State) : State :=
  let id := p.fields.id
  let s := { s with sto :=
    { st := if p.thenLoading then .loading else .idle
      array := s.sto.array.finish readsBack id
      images := if readsBack then s.sto.images.put p.fields else s.sto.images.drop id } }
  s.raise (.storeDone id readsBack p.written)

/-! ## Loading (R177, R178) -/

/-- R178: what a RESTART does to the store. -/
def StoreState.restart : StoreState → StoreState
  | .programming p => .programming { p with thenLoading := true }
  | _ => .loading

/-- R177, R63, R34, R125, R131, R156: the working settings are handed to the blocks that own them. -/
def State.takeWorking (w : Working) (s : State) : State :=
  let s := s.setLightMode w.lightMode
  let s := { s with fan := { s.fan with profile := w.profile } }.lowerToCaps
  let s := s.putLens { s.lnc with overrangeMode := w.overrangeMode, driftMode := w.driftMode }
  let s := s.putLens { s.lnc with driftResidual := s.formResidual s.hli.rest }
  { s with geo := { s.geo with keystone := w.keystone, zoom := w.zoom, residual := s.lnc.digital } }

/-- R103: start-up homing. -/
def State.startUpHoming (s : State) : State :=
  let s1 := { s with cfg := { s.cfg with startHoming := false } }
  if s.cfg.startHoming && s.cfg.params.homeAtStart then (s1.homeOrder .h .start).homeOrder .v .start else s1

/-- R177, R2, R156, R196, R103: loading ends. -/
def State.endLoading (s : State) : State :=
  let images := s.sto.array.load
  let s := { s with sto := { s.sto with st := .idle, images := images } }
  let (p, defaults) := loadedInstall images.install
  let s := s.takeInstall p defaults
  let s := (s.takeWorking (images.working.getD .default)).compose.startBuild
  { s with hli := { s.hli with ready := true } }.startUpHoming

end Sys2Proof.Machine
end

