-- ==== Sys2Proof/Machine/Status.lean ====
section
/-! DEFINITION. The sections of STATUS (R192): each reports the items its owning rule lists, in the order of that rule. Widths and
optional marks that the rules leave open: notes/assumptions/5.md. -/

namespace Sys2Proof.Machine

def StoreState.code : StoreState → Nat
  | .loading => 0
  | .idle => 1
  | .staged _ => 2
  | .programming _ => 3

/-- Section 0: the part summary (R192). -/
def State.statusPart (s : State) : List Byte :=
  u8 s.tsv.regime.code ++ firstIfTrue s.hli.ready ++ firstIfTrue s.hli.rest ++ u8 s.cfg.orientation.code
    ++ flag s.cfg.defaultsInUse ++ u8 s.hli.queue.length ++ u8 s.sto.st.code

/-- Section 1: the installation state (R13). -/
def State.statusInstall (s : State) : List Byte :=
  let axis (a : AxisId) : List Byte :=
    optBytes i16 (s.screen a) ++ u16 (s.axisParams a).travelLimit ++ u8 (s.axis a).st.code
  u8 s.cfg.orientation.code ++ u8 s.cfg.strap.code ++ u8 s.cfg.params.source.code ++ flag s.cfg.defaultsInUse
    ++ axis .h ++ axis .v

/-- R27: one channel; an absent one reports its presence alone, and that byte is also the presence byte of the items after it: the
model's choice (notes/assumptions/5.md). -/
def Channel.statusBytes (c : Channel) : List Byte :=
  if c.present then firstIfTrue true ++ optBytes i16 c.filtered ++ firstIfTrue (!c.fault) ++ u8 c.window.length
  else firstIfTrue false

/-- Section 2: the temperature channels (R27). -/
def State.statusChannels (s : State) : List Byte := Chan.list.flatMap (fun c => (s.channel c).statusBytes)

/-- R52: one fan. -/
def Fan.statusBytes (x : Fan) : List Byte :=
  u8 x.st.code ++ u16 x.duty ++ u16 x.speed ++ optBytes u16 x.override ++ u8 x.attempts

/-- R50: one row of the test record. -/
def TestRow.bytes (r : TestRow) : List Byte :=
  u8 r.result.code ++ optBytes u16 r.speed1 ++ optBytes u16 r.speed2 ++ optBytes u16 r.speed3

/-- Section 3: the fans and the fan test (R52). One byte is both the mark that a fan test is running and the presence byte of its fan
and step: the model's choice (notes/assumptions/5.md). -/
def State.statusFans (s : State) : List Byte :=
  FanId.list.flatMap (fun f => (s.fanOf f).statusBytes) ++ u8 s.fan.profile.code ++ flag s.fan.allowance
    ++ optBytes (fun r => u8 r.fan.index ++ u8 (r.step + 1)) s.fan.test.run
    ++ FanId.list.flatMap (fun f => (s.fan.test.rows.get f).bytes)
    ++ optBytes (fun o => u8 o.code) s.fan.test.outcome ++ optBytes (fun c => u8 c.code) s.fan.test.cause

def CauseAt.bytes (c : CauseAt) : List Byte := u8 c.cause.code ++ optBytes u8 c.index

/-- R74: the derate excess that STATUS reports: that of the last PROTECT period end, or none in NORMAL and EMERGENCY. In PROTECT
with no PROTECT period end since the reset it is none: the model's choice (notes/assumptions/36.md). -/
def TsvBlock.reportedExcess (t : TsvBlock) : Option Int := if t.regime = .protect then t.excess else none

/-- Section 4: the thermal supervisor (R74). The elapsed time of a run-on that is not active is an absent field: the model's
choice (notes/assumptions/5.md). -/
def State.statusThermal (s : State) : List Byte :=
  let t := s.tsv
  u8 t.regime.code ++ optBytes CauseAt.bytes t.entryCause ++ listBytes CauseAt.bytes t.causes ++ u16 t.periodLen
    ++ u16 t.ceiling ++ u16 t.requested ++ u16 t.lightMax ++ u16 t.floor ++ optBytes u16 s.lel.n ++ optBytes i16 t.reportedExcess
    ++ u8 t.dwell ++ firstIfTrue t.recirc ++ u8 t.entryCount ++ u8 t.clearCount ++ firstIfTrue t.runOn.isSome
    ++ optBytes (fun began => u16 ((s.now - began) / 1000)) t.runOn ++ u8 t.lastRunOnEnd.code

def AdvertFrame.bytes (a : AdvertFrame) : List Byte :=
  u16 a.minDrive ++ u16 a.minRunOn ++ u8 a.thermals ++ listBytes u16 a.levels

/-- Section 5: the light-engine link (R92). The form of LIGHT_INHIBIT's failing conditions, a list with a count byte, is the
model's choice (notes/assumptions/5.md). -/
def State.statusLink (s : State) : List Byte :=
  let l := s.lel
  u8 l.st.code ++ optBytes AdvertFrame.bytes l.resolved ++ u16 l.drive ++ optBytes u16 l.n
    ++ u8 (if l.toggle then 1 else 0) ++ optBytes u16 l.ack ++ optBytes (fun e => [e]) l.lastEcho
    ++ flag l.reductionPending ++ optBytes (fun due => u16 (s.leftTo due)) l.deadline ++ u8 l.overCount
    ++ firstIfTrue s.lightInhibit ++ listBytes u8 s.inhibitReasons

/-- R116: the screen target of the move in progress or kept. -/
def State.moveTarget (s : State) (a : AxisId) : Option Int :=
  match (s.axis a).order with
  | some (.move t) => some (s.convert a t)
  | _ => none

/-- Section 6: the lens axes (R116). The presence byte of the homing phase is also the mark of a homing in progress: the model's choice
(notes/assumptions/5.md). -/
def State.statusAxes (s : State) : List Byte :=
  let axis (a : AxisId) : List Byte :=
    let x := s.axis a
    u8 x.st.code ++ u8 x.hold.code ++ optBytes i16 (s.screen a) ++ u16 (s.axisParams a).travelLimit
      ++ optBytes i16 (s.moveTarget a) ++ firstIfTrue x.keptHome
      ++ optBytes (fun p => match p with | .backOff _ => u8 0 | .seek _ _ => u8 1) x.homing
  axis .h ++ axis .v ++ flag s.axc.forced ++ flag s.axc.held

/-- R138: one axis part of a queue entry: target, clamped mark and remainder. -/
def State.partBytes (s : State) (a : AxisId) (p : Part) : List Byte :=
  i16 (s.partTarget a p) ++ (match p with | .move _ clamped rem => flag clamped ++ i16 rem | .home => flag false ++ i16 0)

def State.requestBytes (s : State) (r : Request) : List Byte :=
  [r.tag] ++ u8 r.origin.code ++ optBytes (s.partBytes .h) r.parts.h ++ optBytes (s.partBytes .v) r.parts.v

def Executing.bytes (s : State) (x : Executing) : List Byte :=
  s.requestBytes x.request ++ optBytes (fun o => u8 o.outcome.code) x.answers.h
    ++ optBytes (fun o => u8 o.outcome.code) x.answers.v

/-- Section 7: the lens controller (R138). The order planned H, planned V, base H, base V, and the one byte that is both the mark of a
correction in flight and the presence byte of its aim, are the model's choice (notes/assumptions/5.md). -/
def State.statusLens (s : State) : List Byte :=
  let l := s.lnc
  listBytes s.requestBytes l.queue ++ optBytes (Executing.bytes s) l.executing
    ++ optBytes i16 (s.planned .h) ++ optBytes i16 (s.planned .v) ++ optBytes i16 (s.base .h) ++ optBytes i16 (s.base .v)
    ++ listBytes (fun e => optBytes i16 e.h ++ optBytes i16 e.v) l.history ++ listBytes OutcomeEntry.bytes l.outcomes
    ++ u8 l.overrangeMode.code ++ i16 l.overrange.h ++ i16 l.overrange.v
    ++ u8 l.driftMode.code ++ optBytes i16 l.tcal ++ i16 l.desired ++ i16 l.applied ++ i16 l.driftResidual
    ++ optBytes (fun c => i16 c.aim) l.correction ++ i16 l.digital.h ++ i16 l.digital.v

def Point.bytes (p : Point) : List Byte := i32 p.x ++ i32 p.y

/-- Section 8: the geometry and the mesh engine (R158). One byte is both the build state and the mark of the target bank that
follows while a build runs: the model's choice (notes/assumptions/5.md). -/
def State.statusGeometry (s : State) : List Byte :=
  let g := s.geo
  g.keystone.bytes ++ u16 g.zoom ++ i16 g.residual.h ++ i16 g.residual.v ++ u16 s.pixelsPerStep.h ++ u16 s.pixelsPerStep.v
    ++ g.comp.quad.tl.bytes ++ g.comp.quad.tr.bytes ++ g.comp.quad.br.bytes ++ g.comp.quad.bl.bytes
    ++ i16 g.comp.requested.x ++ i16 g.comp.requested.y ++ g.comp.applied.bytes
    ++ firstIfTrue g.comp.clipped ++ firstIfTrue g.comp.identity
    ++ optBytes (fun b => u8 b.target.code) s.mse.build ++ u16 s.mse.counter

/-- R172: the time since the last FRAME_SYNC, while sync is PRESENT. -/
def State.sinceSync (s : State) : Option Nat :=
  if s.scp.syncAbsent then none else s.scp.syncDue.map (fun due => 100 - s.leftTo due)

/-- Section 9: the scaler port (R172). The time since the last FRAME_SYNC takes two bytes, one byte is both the mark of a burst in
progress and the presence byte of its bank, and the sequence number of a READY bank has a presence byte of its own beside the bank
state: the model's choice (notes/assumptions/5.md). -/
def State.statusScaler (s : State) : List Byte :=
  let p := s.scp
  let other := p.live.other
  u8 p.live.code ++ u16 (p.meshOf p.live).header.seq ++ u8 (p.stateOf other).code
    ++ optBytes u16 (if p.otherReady then some (p.meshOf other).header.seq else none)
    ++ (match p.line with | .burst bank _ _ => u8 1 ++ u8 bank.code | _ => u8 0)
    ++ flag p.swapPending ++ firstIfTrue (!p.syncAbsent) ++ optBytes u16 s.sinceSync

/-- R187: the name of a valid preset and which of its four parts are present. -/
def Preset.statusBytes (p : Preset) : List Byte :=
  listBytes (fun c => [c]) p.name ++ flag p.hPos.isSome ++ flag p.vPos.isSome ++ flag p.tcal.isSome ++ flag p.geometry.isSome

/-- Section 10: the settings store (R187). The store state stands for the presence byte of the record and count of a stage and of the
record and time left of a programming, and the valid mark of a preset for that of its name and parts: the model's choice
(notes/assumptions/5.md). -/
def State.statusStore (s : State) : List Byte :=
  let i := s.sto.images
  u8 s.sto.st.code
    ++ (match s.sto.st with
        | .staged g => u8 g.record.number ++ u8 g.fields.length
        | .programming p => u8 p.fields.id.number ++ u16 (s.leftTo p.due)
        | _ => [])
    ++ firstIfTrue i.install.isSome ++ firstIfTrue i.working.isSome
    ++ i.presets.toList.flatMap (fun p => firstIfTrue p.isSome)
    ++ i.presets.toList.flatMap (fun p => match p with | some p => p.statusBytes | none => [])
    ++ flag s.installLock

/-- R192: the report of a section, `none` outside the table. -/
def State.statusSection (s : State) : Nat → Option (List Byte)
  | 0 => some s.statusPart
  | 1 => some s.statusInstall
  | 2 => some s.statusChannels
  | 3 => some s.statusFans
  | 4 => some s.statusThermal
  | 5 => some s.statusLink
  | 6 => some s.statusAxes
  | 7 => some s.statusLens
  | 8 => some s.statusGeometry
  | 9 => some s.statusScaler
  | 10 => some s.statusStore
  | _ => none

end Sys2Proof.Machine
end

