-- ==== Sys2Proof/Machine/HostCommands.lean ====
section
/-! DEFINITION. The host link's commands: FETCH, STATUS, READ_EVENTS, READ_COUNTERS, REST, RESTART, UNKNOWN_KIND,
HOST_FRAME_INVALID, PURE_READ, TRANSACTION_START. -/

namespace Sys2Proof.Machine

/-- FETCH (R190). -/
def execFetch (payload : List Byte) (s : State) : Host.Outcome State Fault Refusal :=
  s.performRequest .fetch payload fun s => s.withForm .fetch (parse0 payload) fun _ s => s.respond .fetch .ok []

/-- STATUS (R192). -/
def execStatus (payload : List Byte) (lock : Bool) (s : State) : Host.Outcome State Fault Refusal :=
  s.performRequest .status payload fun s =>
    { s with installLock := lock }.withForm .status (parse1 payload) fun n s =>
      match s.statusSection n with
      | some bytes => s.respond .status .ok bytes
      | none => s.respond .status .invalid []

/-- R194: the payload of READ_EVENTS. -/
def eventsPayload (entries : List QueueEntry) : List Byte := listBytes QueueEntry.bytes entries

/-- READ_EVENTS (R194): up to 8 entries leave the oldest end. -/
def execReadEvents (payload : List Byte) (s : State) : Host.Outcome State Fault Refusal :=
  s.performRequest .readEvents payload fun s =>
    s.withForm .readEvents (parse0 payload) fun _ s =>
      (s.putHost { s.hli with queue := s.hli.queue.drop 8 }).respond .readEvents .ok (eventsPayload (s.hli.queue.take 8))

/-- READ_COUNTERS (R195). -/
def execReadCounters (payload : List Byte) (s : State) : Host.Outcome State Fault Refusal :=
  s.performRequest .readCounters payload fun s =>
    s.withForm .readCounters (parse0 payload) fun _ s =>
      s.clearCounters.respond .readCounters .ok (s.counters.flatMap u8)

/-- REST (R197). -/
def execRest (payload : List Byte) (s : State) : Host.Outcome State Fault Refusal :=
  s.performRequest .rest payload fun s =>
    s.withForm .rest (parse0 payload) fun _ s =>
      if s.restReasons.isEmpty then s.enterRest.respond .rest .ok [] else s.refuse .rest .conditions s.restReasons

/-- R115: one axis at a RESTART. -/
def AxcBlock.restart (x : AxcBlock) : AxcBlock :=
  { axes := x.axes.map (fun y => { y with slipCount := 0 }), forced := false, held := false }

/-- R201, R202: what an accepted RESTART leaves. -/
def State.restart (s : State) : State :=
  { s with
    cfg := { s.cfg with startHoming := false }
    sen := .reset
    fan := .reset s.now
    tsv := .reset s.now
    lel := .reset s.now
    axc := s.axc.restart
    lnc := .reset
    geo := .reset
    mse := { s.mse with build := none }
    scp := s.scp.restart s.now
    sto := { s.sto with st := s.sto.st.restart }
    hli := { s.hli with queue := [], ready := false, rest := false } }

/-- RESTART (R201). -/
def execRestart (payload : List Byte) (s : State) : Host.Outcome State Fault Refusal :=
  s.performRequest .restart payload fun s =>
    s.withForm .restart (parse0 payload) fun _ s =>
      if s.restartReasons.isEmpty then s.restart.respond .restart .accepted [] else s.refuse .restart .busy s.restartReasons

/-- UNKNOWN_KIND (R190): a complete frame of a kind that is not in the table. -/
def execUnknownKind (kind : Byte) (payload : List Byte) (s : State) : Host.Outcome State Fault Refusal :=
  s.performIn State.lineIdle (State.takeFrame kind payload.length (State.respondTo kind .unknownKind []))

/-- HOST_FRAME_INVALID (R189): a frame that is truncated or whose length byte is above 60. -/
def execHostFrameInvalid (kind : Byte) (s : State) : Host.Outcome State Fault Refusal :=
  s.performIn State.lineIdle fun s => if s.hli.line = .cut then s.lineIdle else s.lineIdle.refuseFrame kind

/-- R189: the bytes sent in a transaction of `n` bytes. Nothing but 00h leaves a line that RESET_n has cut off (R188). -/
def State.sendResponse (line : HostLine) (n : Nat) (s : State) : State :=
  s.putHost { s.hli with line := line, sent := s.hli.response.sent n }

/-- R188: the same while the part sends 00h. -/
def State.sendZeros (line : HostLine) (n : Nat) (s : State) : State :=
  s.putHost { s.hli with line := line, sent := List.replicate n 0x00#8 }

/-- PURE_READ (R189): a whole transaction of fewer than 2 bytes. It takes no request and does not end Rest. -/
def execPureRead (received : List Byte) (s : State) : Host.Outcome State Fault Refusal :=
  s.performIn (State.sendZeros .idle received.length) fun s =>
    if s.hli.line = .cut then s.sendZeros .idle received.length else s.sendResponse .idle received.length

/-- TRANSACTION_START (R189): select is asserted, and the bytes of `received` have been clocked since. -/
def execTransactionStart (received : List Byte) (s : State) : Host.Outcome State Fault Refusal :=
  s.performIn (State.sendZeros .cut received.length) (State.sendResponse (.active received) received.length)

end Sys2Proof.Machine
end

