-- ==== Sys2Proof/Machine/LensCommands.lean ====
section
/-! DEFINITION. The lens controller's commands: LENS_MOVE_TO, LENS_MOVE_BY, LENS_HOME, LENS_STOP, LENS_RECALL, LENS_BACK,
SET_OVERRANGE, SET_DRIFT_MODE. -/

namespace Sys2Proof.Machine

/-- R118: a request is queued and answered ACCEPTED. -/
def State.acceptLens (kind : Kind) (r : Request) (s : State) : State := (s.enqueue r).respond kind .accepted []

/-- LENS_MOVE_TO (R118, R120). -/
def execLensMoveTo (payload : List Byte) (s : State) : Host.Outcome State Fault Refusal :=
  s.performRequest .lensMoveTo payload fun s =>
    s.withForm .lensMoveTo (parseLensMove payload) fun (tag, targets) s =>
      if targets.h.isNone ∧ targets.v.isNone then s.respond .lensMoveTo .invalid []
      else if s.lnc.queueFull then s.respond .lensMoveTo .busy []
      else s.acceptLens .lensMoveTo { tag := tag, origin := .moveTo, parts := s.movesTo targets, preset := none }

/-- R120: the target of a delta on one axis: `none` where the planned position is absent. -/
def State.deltaTarget (s : State) (a : AxisId) (delta : Option Int) : Option (Option Int) :=
  match delta with
  | none => some none
  | some d => (s.planned a).map (fun p => some (p + d))

/-- LENS_MOVE_BY (R118, R120). -/
def execLensMoveBy (payload : List Byte) (s : State) : Host.Outcome State Fault Refusal :=
  s.performRequest .lensMoveBy payload fun s =>
    s.withForm .lensMoveBy (parseLensMove payload) fun (tag, deltas) s =>
      if deltas.h.isNone ∧ deltas.v.isNone then s.respond .lensMoveBy .invalid []
      else if s.lnc.queueFull then s.respond .lensMoveBy .busy []
      else
        match s.deltaTarget .h deltas.h, s.deltaTarget .v deltas.v with
        | some h, some v =>
          s.acceptLens .lensMoveBy
            { tag := tag, origin := .moveBy, parts := s.movesTo { h := h, v := v }, preset := none }
        | _, _ => s.refuse .lensMoveBy .conditions [.notReferenced]

/-- LENS_HOME (R118, R121). A list that names an axis twice names it once: the model's choice (notes/assumptions/37.md). -/
def execLensHome (payload : List Byte) (s : State) : Host.Outcome State Fault Refusal :=
  s.performRequest .lensHome payload fun s =>
    s.withForm .lensHome (parseLensHome payload) fun (tag, axes) s =>
      if axes.isEmpty then s.respond .lensHome .invalid []
      else if s.lnc.queueFull then s.respond .lensHome .busy []
      else
        let part (a : AxisId) : Option Part := if axes.contains a then some .home else none
        s.acceptLens .lensHome
          { tag := tag, origin := .home, parts := { h := part .h, v := part .v }, preset := none }

/-- LENS_STOP (R130): answered with the number of requests stopped. -/
def execLensStop (payload : List Byte) (s : State) : Host.Outcome State Fault Refusal :=
  s.performRequest .lensStop payload fun s =>
    s.withForm .lensStop (parseTag payload) fun _ s => s.stopAll.respond .lensStop .ok (u8 s.lnc.inHandCount)

/-- R126, R128: the planned positions are pushed onto the history. -/
def State.pushPlanned (s : State) : State :=
  s.putLens { s.lnc with history := pushHistory { h := s.planned .h, v := s.planned .v } s.lnc.history }

/-- R126: the queue entry of a recall. -/
def State.recallEntry (tag : Byte) (p : Preset) (s : State) : Request :=
  { tag := tag, origin := .recall
    parts := s.movesTo { h := p.hPos.map Int.ofNat, v := p.vPos.map Int.ofNat }
    preset := some { tcal := p.tcal, geometry := p.geometry } }

/-- LENS_RECALL (R126). -/
def execLensRecall (payload : List Byte) (s : State) : Host.Outcome State Fault Refusal :=
  s.performRequest .lensRecall payload fun s =>
    s.withForm .lensRecall (parseLensRecall payload) fun (tag, n) s =>
      if 9 < n then s.respond .lensRecall .invalid []
      else if s.sto.st.programming? then s.respond .lensRecall .storeBusy []
      else
        match (s.sto.images.presets[n]?).join with
        | none => s.respond .lensRecall .empty []
        | some p =>
          if s.lnc.queueFull then s.respond .lensRecall .busy []
          else s.pushPlanned.acceptLens .lensRecall (s.recallEntry tag p)

/-- LENS_BACK (R129). -/
def execLensBack (payload : List Byte) (s : State) : Host.Outcome State Fault Refusal :=
  s.performRequest .lensBack payload fun s =>
    s.withForm .lensBack (parseTag payload) fun tag s =>
      match s.lnc.history with
      | [] =>
        (s.complete { tag := tag, origin := .back, outcome := .historyEmpty, axes := { h := none, v := none } }
          { h := none, v := none }).respond .lensBack .accepted []
      | top :: rest =>
        if s.lnc.queueFull then s.respond .lensBack .busy []
        else
          (s.putLens { s.lnc with history := rest }).acceptLens .lensBack
            { tag := tag, origin := .back, parts := s.movesTo top, preset := none }

/-- R125: the overrange mode; a change to CLAMP sets both overrange residuals to 0. -/
def State.setOverrange (m : OverrangeMode) (s : State) : State :=
  if s.lnc.overrangeMode = m then s
  else
    match m with
    | .clamp => (s.putLens { s.lnc with overrangeMode := m, overrange := { h := 0, v := 0 } }).handOver
    | .digital => s.putLens { s.lnc with overrangeMode := m }

/-- SET_OVERRANGE (R125). -/
def execSetOverrange (payload : List Byte) (s : State) : Host.Outcome State Fault Refusal :=
  s.performRequest .setOverrange payload fun s =>
    s.withForm .setOverrange (parse1 payload) fun n s =>
      match OverrangeMode.ofCode n with
      | some m => (s.setOverrange m).respond .setOverrange .ok []
      | none => s.respond .setOverrange .invalid []

/-- R131: the drift mode; upon a change the drift residual is formed again at once, in MOTOR by whether V is available also while a
request naming V executes: the model's choice (notes/assumptions/44.md). -/
def State.setDriftMode (m : DriftMode) (s : State) : State :=
  if s.lnc.driftMode = m then s else (s.putLens { s.lnc with driftMode := m }).reformResidual s.hli.rest

/-- SET_DRIFT_MODE (R131). -/
def execSetDriftMode (payload : List Byte) (s : State) : Host.Outcome State Fault Refusal :=
  s.performRequest .setDriftMode payload fun s =>
    s.withForm .setDriftMode (parse1 payload) fun n s =>
      match DriftMode.ofCode n with
      | some m => (s.setDriftMode m).respond .setDriftMode .ok []
      | none => s.respond .setDriftMode .invalid []

end Sys2Proof.Machine
end

