-- ==== Sys2Proof/Machine/Sensors.lean ====
section
/-! DEFINITION. The temperature channels (R14 to R28): samples, windows, filtered values, sensor faults, presence, and what a
sample point hands on. -/

namespace Sys2Proof.Machine

/-- One sample of a channel (R17, R18). -/
inductive Sample where
  | valid (t : Temp)
  | invalid (cause : SensorCause)
  | missing
  deriving DecidableEq, Repr

/-- R17: a temperature in −30.0 … 140.0 °C is a valid sample. -/
def sampleOf (t : Temp) : Sample := if -300 ≤ t ∧ t ≤ 1400 then .valid t else .invalid .outOfRange

/-- R18: the sample of a present S6 or S7. -/
def lightSample (link : LinkState) (held : Option (Option Temp)) : Sample :=
  if link = .up then
    match held with
    | some (some t) => sampleOf t
    | some none => .invalid .markedInvalid
    | none => .missing
  else .invalid .linkNotUp

/-- R20: the mean of a window, a half rounded toward +∞. -/
def windowMean (w : List Temp) : Temp := roundHalfUp w.sum w.length

/-- R19: a sample entered at the newest end of a window of at most four. -/
def pushWindow (w : List Temp) (t : Temp) : List Temp := (if 4 ≤ w.length then w.drop 1 else w) ++ [t]

/-- A change of condition to report: FAULT or CLEARED, with its cause (R25). -/
abbrev ConditionChange := Option (Bool × SensorCause)

/-- R19, R22, R23: a channel in NORMAL takes its sample. -/
def Channel.takeNormal (warning : Temp) (sample : Sample) (c : Channel) : Channel × ConditionChange :=
  match sample with
  | .valid t =>
    let w := pushWindow c.window t
    ({ c with window := w, invalidRun := 0, filtered := some (windowMean w) }, none)
  | .invalid cause =>
    if 2 ≤ c.invalidRun + 1 then
      ({ c with window := [], invalidRun := 0, validRun := 0, filtered := some warning, fault := true }, some (true, cause))
    else ({ c with invalidRun := c.invalidRun + 1 }, none)
  | .missing => (c, none)

/-- R23, R24: a channel in FAULT takes its sample. -/
def Channel.takeFault (warning : Temp) (sample : Sample) (c : Channel) : Channel × ConditionChange :=
  match sample with
  | .valid t =>
    let w := pushWindow c.window t
    if 4 ≤ c.validRun + 1 then
      ({ c with window := w, filtered := some (windowMean w), fault := false, validRun := 0, invalidRun := 0 },
        some (false, .recovered))
    else ({ c with window := w, validRun := c.validRun + 1, filtered := some warning }, none)
  | .invalid _ => ({ c with window := [], validRun := 0, filtered := some warning }, none)
  | .missing => ({ c with filtered := some warning }, none)

def Channel.take (warning : Temp) (sample : Sample) (c : Channel) : Channel × ConditionChange :=
  if c.fault then c.takeFault warning sample else c.takeNormal warning sample

/-- R26: the quality of a channel. -/
def Channel.quality (c : Channel) : Quality :=
  if c.fault then .fault else if c.window.isEmpty then .unknown else .known

/-- R26: what a channel hands on: the filtered value, or the warning threshold where it is unknown, and the quality. -/
def Channel.handOn (warning : Temp) (c : Channel) : Channel :=
  { c with handed := some (c.filtered.getD warning, c.quality) }

/-- R17, R18: the sample of a channel at a sample point. -/
def State.sampleFor (th : Thermistors) (s : State) (c : Chan) : Sample :=
  match c with
  | .s0 => sampleOf th.th0
  | .s1 => sampleOf th.th1
  | .s2 => sampleOf th.th2
  | .s3 => sampleOf th.th3
  | .s4 => sampleOf th.th4
  | .s5 => sampleOf th.th5
  | .s6 => lightSample s.lel.st s.sen.channels.s6.held
  | .s7 => lightSample s.lel.st s.sen.channels.s7.held

def State.putChannel (c : Chan) (x : Channel) (s : State) : State :=
  { s with sen := { s.sen with channels := s.sen.channels.set c x } }

/-- R16 to R26: one present channel at a sample point; SENSOR_FAULT where its condition changes. -/
def State.sampleChannel (th : Thermistors) (c : Chan) (s : State) : State :=
  let x := s.channel c
  if x.present then
    let warning := (s.chanParams c).warning
    let (y, change) := x.take warning (s.sampleFor th c)
    let s := s.putChannel c { y.handOn warning with held := none }
    match change with
    | some (fault, cause) => s.raise (.sensorFault c fault cause)
    | none => s
  else s

/-- R16: whether this period end is a sample point: every one outside Rest, and in Rest the first that comes 2 s or more
after the last. A Rest that ended and was entered again since the last period end counts as Rest: the model's choice
(notes/assumptions/46.md). -/
def State.samplePointDue (s : State) : Bool :=
  !s.hli.rest ||
    match s.sen.lastSample with
    | some t => t + 2000 ≤ s.now
    | none => true

/-- R16: a sample point: S0 to S7 in ascending order. -/
def State.samplePoint (th : Thermistors) (s : State) : State :=
  let s := Chan.list.foldl (fun s c => s.sampleChannel th c) s
  { s with sen := { s.sen with lastSample := some s.now } }

/-- R15: one light-source channel takes its presence from an accepted advertisement. -/
def State.setPresence (c : Chan) (present : Bool) (s : State) : State :=
  let x := s.channel c
  if present then
    if x.present then s else s.putChannel c (.reset true)
  else if x.present then
    let s := s.putChannel c (.reset false)
    if x.fault then s.raise (.sensorFault c false .absent) else s
  else s

/-- R15: the presence of S6 and S7 from the thermal values an advertisement reports. Where one advertisement makes both absent while
both are in FAULT, S6 raises its SENSOR_FAULT first: the model's choice (notes/assumptions/13.md). -/
def State.presenceFrom (thermals : Nat) (s : State) : State :=
  (s.setPresence .s6 (decide (1 ≤ thermals))).setPresence .s7 (decide (2 ≤ thermals))

/-- R18: a present light-source channel holds the value a TELEMETRY carries for it. -/
def State.holdValue (c : Chan) (value : Option Temp) (s : State) : State :=
  let x := s.channel c
  if x.present then s.putChannel c { x with held := some value } else s

/-- R18: the values of an accepted TELEMETRY. -/
def State.takeTemperatures (f : TelemetryFrame) (s : State) : State := (s.holdValue .s6 f.first).holdValue .s7 f.second

/-- R18: when the link leaves UP the held values are discarded. -/
def State.discardHeld (s : State) : State :=
  let drop (c : Chan) (s : State) : State := s.putChannel c { s.channel c with held := none }
  drop .s7 (drop .s6 s)

end Sys2Proof.Machine
end

