-- ==== Sys2Proof/Machine/LinkEvents.lean ====
section
/-! DEFINITION. What the light-engine link brings about in the other blocks: the acceptance of an advertisement (R80 to R82), an
accepted telemetry frame (R85 to R88), the loss of the link (R89), an expired reduction deadline (R87), and the
receiver's bytes (R76). -/

namespace Sys2Proof.Machine

/-- R80 to R82: an ADVERT is accepted. -/
def State.acceptAdvert (a : AdvertFrame) (s : State) : State :=
  let old := s.lel.st
  let s := ((s.linkAccept a).presenceFrom a.thermals).superviseAccept a
  let s := (s.frameDue .advertReply).notify
  s.raise (.linkChanged old .up (if old = .up then .readvertised else .advertAccepted) none)

/-- R76, R79: a complete ADVERT: more levels than eight are a frame error; a failed check is answered with its reason. -/
def State.takeAdvert (a : AdvertFrame) (s : State) : State :=
  if 8 < a.levels.length then s.frameError
  else
    match a.reject with
    | some r => s.receiverHunts.frameDue (.advertReject r)
    | none => s.receiverHunts.acceptAdvert a

/-- The toggle as a byte (R83, R86). -/
def LelBlock.toggleByte (l : LelBlock) : Byte := if l.toggle then 0x01#8 else 0x00#8

/-- R86, R87: the acknowledgement of a TELEMETRY. -/
def State.acknowledge (echo : Byte) (s : State) : State :=
  if echo = s.lel.toggleByte then
    let s := s.setAcknowledged s.lel.n
    if s.lel.reductionPending then s else s.stopDeadline
  else s

/-- R88: the over-drive watch. -/
def State.watchDrive (drive : Nat) (s : State) : State :=
  if s.lel.ack.getD 0 + 10 < drive then
    if 5 ≤ s.lel.overCount + 1 then (s.putLink { s.lel with overCount := 0 }).reportEmergency .overdrive
    else s.putLink { s.lel with overCount := s.lel.overCount + 1 }
  else s.putLink { s.lel with overCount := 0 }

/-- R85: an accepted TELEMETRY, with R51 and R200 for a drive above 0. Where the frame also brings the OVERDRIVE change of regime, that
change comes before LIGHT_ON: the model's choice (notes/assumptions/40.md). -/
def State.acceptTelemetry (f : TelemetryFrame) (s : State) : State :=
  let s := s.putLink { s.lel with lossDue := some (s.now + 200), lastEcho := some f.echo }
  let s := (s.acknowledge f.echo).watchDrive f.drive
  let s := (s.putLink { s.lel with drive := f.drive }).takeDrive f.drive
  let s := if 0 < f.drive then s.abortTest .lightOn else s
  let s := s.takeTemperatures f
  if 0 < f.drive then s.wake .lightOn else s

/-- R76, R85: a complete TELEMETRY. -/
def State.takeTelemetry (f : TelemetryFrame) (s : State) : State :=
  if f.sound then
    if s.lel.st = .up then s.receiverHunts.acceptTelemetry f else s.receiverHunts
  else s.frameError

/-- R89: the link is lost. -/
def State.loseLink (s : State) : State :=
  let drive := s.lel.drive
  let s := (s.putLink { s.lel with st := .lost, lossDue := none }).stopNotices
  let s := if 0 < drive then s.reportEmergency .linkLost else s
  let s := (s.setAcknowledged none).stopDeadline
  let s := (s.putLink { s.lel with overCount := 0 }).solicit
  (s.raise (.linkChanged .up .lost .telemetryTimeout (some (drive, decide (0 < drive))))).discardHeld

/-- R87: the reduction deadline expires. -/
def State.missDeadline (s : State) : State := s.stopDeadline.reportEmergency .ackTimeout

/-- R76: the receiver takes one byte. -/
def State.receiveByte (b : Byte) (s : State) : State :=
  match s.lel.rx with
  | .hunting => if b = 0xA5#8 then s.putLink { s.lel with rx := .collecting [] (s.now + 2) } else s
  | .collecting bytes _ =>
    match judgeFrame (bytes ++ [b]) with
    | .more => s.putLink { s.lel with rx := .collecting (bytes ++ [b]) (s.now + 2) }
    | .faulty => s.frameError
    | .advert a => s.takeAdvert a
    | .telemetry f => s.takeTelemetry f

end Sys2Proof.Machine
end

