-- ==== Sys2Proof/Machine/LinkCommands.lean ====
section
/-! DEFINITION. The light-engine link's commands: ADVERT, TELEMETRY, LINK_FRAME_ERROR, INTERBYTE_TIMEOUT, TX_FRAME_END, the
expiries of its timers, LINK_BYTE_RECEIVED. -/

namespace Sys2Proof.Machine

/-- ADVERT (R79). -/
def execAdvert (frame : AdvertFrame) (s : State) : Host.Outcome State Fault Refusal :=
  s.perform (State.takeAdvert frame)

/-- TELEMETRY (R85). -/
def execTelemetry (frame : TelemetryFrame) (s : State) : Host.Outcome State Fault Refusal :=
  s.perform (State.takeTelemetry frame)

/-- LINK_FRAME_ERROR (R76): the frame in collection is discarded as faulty, as at a character with a framing error
(notes/assumptions/30.md). With the receiver hunting there is no frame to discard, and nothing is counted. -/
def execLinkFrameError (s : State) : Host.Outcome State Fault Refusal :=
  s.perform fun s =>
    match s.lel.rx with
    | .collecting _ _ => s.frameError
    | .hunting => s

/-- INTERBYTE_TIMEOUT (R76): it can run out only while a frame is being collected. -/
def execInterbyteTimeout (s : State) : Host.Outcome State Fault Refusal :=
  s.perform fun s =>
    match s.lel.rx with
    | .collecting _ due => (s.clockTo due).frameError
    | .hunting => s

/-- TX_FRAME_END (R75). -/
def execTxFrameEnd (s : State) : Host.Outcome State Fault Refusal :=
  s.perform fun s => if s.lel.sending.isSome then s.frameSent else s

/-- SOLICIT_TIMER_EXPIRY (R78). -/
def execSolicitTimerExpiry (s : State) : Host.Outcome State Fault Refusal :=
  s.perform fun s => s.expire s.lel.solicitDue State.solicit

/-- NOTICE_TIMER_EXPIRY (R84). -/
def execNoticeTimerExpiry (s : State) : Host.Outcome State Fault Refusal :=
  s.perform fun s => s.expire s.lel.noticeDue State.notify

/-- LOSS_TIMER_EXPIRY (R89). -/
def execLossTimerExpiry (s : State) : Host.Outcome State Fault Refusal :=
  s.perform fun s => s.expire s.lel.lossDue State.loseLink

/-- REDUCTION_DEADLINE_EXPIRY (R87). -/
def execReductionDeadlineExpiry (s : State) : Host.Outcome State Fault Refusal :=
  s.perform fun s => s.expire s.lel.deadline State.missDeadline

/-- LINK_BYTE_RECEIVED (R76). -/
def execLinkByteReceived (byte : Byte) (s : State) : Host.Outcome State Fault Refusal :=
  s.perform (State.receiveByte byte)

end Sys2Proof.Machine
end

