-- ==== Sys2Proof/Machine/ResetCommands.lean ====
section
/-! DEFINITION. The resets and the end of loading: POWER_ON_RESET, RESET_N, RESET_N_RELEASE, LOADING_END. -/

namespace Sys2Proof.Machine

/-- The levels of both end-stop inputs, as last tested or changed. -/
def State.endstops (s : State) : PerAxis Bool := s.axc.axes.map (fun x => x.endstop)

/-- The state after the end of a reset of this machine: the array and the input lines' levels are what they were, MOUNT is
sampled (R1). -/
def State.resetEnds (mount : Orientation) (s : State) : State :=
  .afterReset s.now mount s.installLock s.endstops s.sto.array s.pending

/-- R188: a transaction in progress when RESET_n is asserted is cut off. -/
def HostLine.reset : HostLine → HostLine
  | .idle => .idle
  | _ => .cut

/-- R173: a burst in progress when RESET_n is asserted is cut off. -/
def ScalerLine.reset : ScalerLine → ScalerLine
  | .idle => .idle
  | _ => .spent

/-- RESET_n is low: every block in its reset state, nothing being sent, no timer running; the strap is sampled at the end. -/
def State.holdReset (s : State) : State :=
  let r := s.resetEnds s.cfg.strap
  { r with
    inReset := true
    lel := { r.lel with sending := none, solicitDue := none }
    scp := { r.scp with line := s.scp.line.reset, syncDue := none }
    hli := { r.hli with line := s.hli.line.reset } }

/-- POWER_ON_RESET (R2): the part starts with its array, and samples MOUNT. -/
def execPowerOnReset (mount : Orientation) (s : State) : Host.Outcome State Fault Refusal := .next (s.resetEnds mount)

/-- RESET_N (R1, R2, R114, R173, R174, R188): RESET_n is asserted. -/
def execResetN (s : State) : Host.Outcome State Fault Refusal := .next s.holdReset

/-- RESET_N_RELEASE (R1, R2): RESET_n is deasserted, and the part starts as after power-on. A select line that was cut off
stays so until it is deasserted (R173, R188). -/
def execResetNRelease (mount : Orientation) (s : State) : Host.Outcome State Fault Refusal :=
  if s.inReset then
    let r := s.resetEnds mount
    .next { r with scp := { r.scp with line := s.scp.line }, hli := { r.hli with line := s.hli.line } }
  else .next s

/-- LOADING_END (R177). -/
def execLoadingEnd (s : State) : Host.Outcome State Fault Refusal :=
  s.perform fun s => if s.sto.st = .loading then s.endLoading else s

end Sys2Proof.Machine
end

