-- ==== Sys2Proof/Machine/ScalerCommands.lean ====
section
/-! DEFINITION. The scaler port's commands: MESH_PEEK, BURST_START, BURST_END, BURST_LIMIT_EXPIRY, FRAME_SYNC, SYNC_ABSENT_EXPIRY.
The bytes a port command carries are those the scaler has clocked since the port's command before. -/

namespace Sys2Proof.Machine

/-- MESH_PEEK (R171). -/
def execMeshPeek (payload : List Byte) (s : State) : Host.Outcome State Fault Refusal :=
  s.performRequest .meshPeek payload fun s =>
    s.withForm .meshPeek (parseMeshPeek payload) fun (first, count) s =>
      if 186 < first ∨ count = 0 ∨ 15 < count then s.respond .meshPeek .invalid []
      else s.respond .meshPeek .ok (s.peekBytes first count)

/-- While RESET_n is low the port sends 00h for every byte (R173). -/
def State.clockInReset (line : ScalerLine) (clocked : List Byte) (s : State) : State :=
  s.putScaler { s.scp with line := line, sent := clocked.map (fun _ => 0x00#8) }

/-- BURST_START (R163): select is asserted. -/
def execBurstStart (clocked : List Byte) (s : State) : Host.Outcome State Fault Refusal :=
  s.performIn (State.clockInReset .spent clocked) (State.beginBurst clocked)

/-- BURST_END (R164): select is deasserted. -/
def execBurstEnd (clocked : List Byte) (s : State) : Host.Outcome State Fault Refusal :=
  s.performIn (State.clockInReset .idle clocked) (State.deselect clocked)

/-- BURST_LIMIT_EXPIRY (R164): the limit runs only during a burst. -/
def execBurstLimitExpiry (clocked : List Byte) (s : State) : Host.Outcome State Fault Refusal :=
  s.perform fun s =>
    match s.scp.line with
    | .burst _ _ due =>
      let s := s.clockTo due
      (s.putScaler (s.scp.clock clocked)).endBurst .spent
    | _ => s

/-- FRAME_SYNC (R165). -/
def execFrameSync (s : State) : Host.Outcome State Fault Refusal := s.perform State.syncEdge

/-- SYNC_ABSENT_EXPIRY (R168). -/
def execSyncAbsentExpiry (s : State) : Host.Outcome State Fault Refusal :=
  s.perform fun s => s.expire s.scp.syncDue State.syncLost

end Sys2Proof.Machine
end

