-- ==== Sys2Proof/Machine/StoreCommands.lean ====
section
/-! DEFINITION. The settings store's commands: STORE_OPEN, STORE_WRITE, STORE_COMMIT, STORE_ABANDON, STORE_READ, PROGRAMMING_END.
-/

namespace Sys2Proof.Machine

/-- The level of INSTALL_LOCK as a request finds it (R185). -/
def State.noteLock (lock : Bool) (s : State) : State := { s with installLock := lock }

/-- STORE_OPEN (R179). -/
def execStoreOpen (payload : List Byte) (lock : Bool) (s : State) : Host.Outcome State Fault Refusal :=
  s.performRequest .storeOpen payload fun s =>
    (s.noteLock lock).withForm .storeOpen (parse1 payload) fun n s =>
      match RecordId.ofNumber n, s.sto.st with
      | none, _ => s.respond .storeOpen .invalid []
      | some _, .programming _ => s.respond .storeOpen .storeBusy []
      | some _, .staged g => s.respond .storeOpen .busy (u8 g.record.number)
      | some r, _ =>
        if r = .install ∧ lock = true then s.respond .storeOpen .locked []
        else (s.putStore (.staged { record := r, fields := [] })).respond .storeOpen .ok []

/-- STORE_WRITE (R180). -/
def execStoreWrite (payload : List Byte) (s : State) : Host.Outcome State Fault Refusal :=
  s.performRequest .storeWrite payload fun s =>
    s.withForm .storeWrite (parseStoreWrite payload) fun (code, index, value) s =>
      match s.sto.st with
      | .staged g =>
        match g.record.defaults.write code.toNat index.toNat value with
        | .noField => s.refuse .storeWrite .invalid [.noField]
        | .range => s.refuse .storeWrite .invalid [.range]
        | .taken _ =>
          (s.putStore (.staged (g.put { code := code, index := index, value := value }))).respond .storeWrite .ok []
      | _ => s.refuse .storeWrite .conditions [.noStage]

/-- R182: an accepted commit closes the stage and begins the programming. -/
def State.acceptCommit (fields : RecordFields) (written : Nat) (s : State) : State :=
  (s.startProgramming fields written).respond .storeCommit .accepted []

/-- R182 steps 4 and 5, R9, R10: a commit of an installation stage. -/
def State.commitInstall (p : Install) (written : Nat) (s : State) : State :=
  match p.check with
  | some e => s.respond .storeCommit .invalid e.bytes
  | none =>
    if s.idleForInstall then
      ((s.takeInstall p false).geometryOnInstall s.cfg).acceptCommit (.install p) written
    else s.respond .storeCommit .busy []

/-- STORE_COMMIT (R182): NOTHING_STAGED is the one value of its result. -/
def execStoreCommit (payload : List Byte) (lock : Bool) (s : State) : Host.Outcome State Fault Refusal :=
  s.performRequest .storeCommit payload fun s =>
    (s.noteLock lock).withForm .storeCommit (parse0 payload) fun _ s =>
      match s.sto.st with
      | .staged g =>
        if g.fields.isEmpty then (s.putStore .idle).respond .storeCommit .ok (u8 0)
        else if g.record = .install ∧ lock = true then s.respond .storeCommit .locked []
        else
          match fullFieldSet s.sto.images g with
          | .install p => s.commitInstall p g.fields.length
          | fields => s.acceptCommit fields g.fields.length
      | _ => s.refuse .storeCommit .conditions [.noStage]

/-- STORE_ABANDON (R181). -/
def execStoreAbandon (payload : List Byte) (s : State) : Host.Outcome State Fault Refusal :=
  s.performRequest .storeAbandon payload fun s =>
    s.withForm .storeAbandon (parse0 payload) fun _ s =>
      match s.sto.st with
      | .staged g => (s.putStore .idle).respond .storeAbandon .ok (u8 g.record.number)
      | _ => s.refuse .storeAbandon .conditions [.noStage]

/-- R186 step 3: the stored value of a field. -/
def State.readStored (r : RecordId) (code index : Byte) (s : State) : State :=
  match s.sto.images.get r with
  | some fields => s.respond .storeRead .ok ((fields.read code.toNat index.toNat).getD [])
  | none => s.respond .storeRead .empty []

/-- R186 step 4: the staged value of a field, or the mark UNWRITTEN. -/
def State.readStaged (r : RecordId) (code index : Byte) (s : State) : State :=
  match s.sto.st with
  | .staged g =>
    if g.record = r then s.respond .storeRead .ok (optBytes (fun v => v) (g.value code index))
    else s.refuse .storeRead .conditions [.noStage]
  | _ => s.refuse .storeRead .conditions [.noStage]

/-- STORE_READ (R186): source 0 is STORED, 1 STAGED. -/
def execStoreRead (payload : List Byte) (s : State) : Host.Outcome State Fault Refusal :=
  s.performRequest .storeRead payload fun s =>
    s.withForm .storeRead (parseStoreRead payload) fun (record, code, index, source) s =>
      match RecordId.ofNumber record with
      | none => s.respond .storeRead .invalid []
      | some r =>
        if (r.defaults.read code.toNat index.toNat).isNone ∨ 1 < source then s.respond .storeRead .invalid []
        else if s.sto.st.programming? then s.respond .storeRead .storeBusy []
        else if source = 0 then s.readStored r code index
        else s.readStaged r code index

/-- PROGRAMMING_END (R183). -/
def execProgrammingEnd (readsBack : Bool) (s : State) : Host.Outcome State Fault Refusal :=
  s.perform fun s =>
    match s.sto.st with
    | .programming p => (s.clockTo p.due).endProgramming readsBack p
    | _ => s

end Sys2Proof.Machine
end

