-- ==== Sys2Proof/Machine/Period.lean ====
section
/-! DEFINITION. The control period (R54): what comes about at its end, in order, with the orders the manual leaves open as they
are given. -/

namespace Sys2Proof.Machine

/-- R54: the instant at which the control period timer expires. -/
def TsvBlock.periodDue (t : TsvBlock) : Nat := t.periodStart + t.periodLen

/-- R31, R54: the duty chain and the supervisor's work, with the wake by temperature before it where it is taken first. -/
def State.superviseInOrder (order : PeriodOrder) (wakes rest : Bool) (s : State) : State :=
  let s := if order.chainFirst then s.dutyChain rest else s
  let s := if wakes && order.wakeFirst then s.wakeByTemperature else s
  let s := s.supervise
  let s := if order.chainFirst then s else s.dutyChain rest
  if wakes && !order.wakeFirst then s.wakeByTemperature else s

/-- R54, R112: the axis controllers' motor-driver checks and the lens controller's drift evaluation. -/
def State.opticsInOrder (order : PeriodOrder) (rest : Bool) (s : State) : State :=
  if order.holdFirst then s.driverChecks.driftEvaluation rest else (s.driftEvaluation rest).driverChecks

/-- R54: a period end. The samples are handed on first (R26); a Rest in force when it is reached is the one its duty chain and
drift evaluation read (R40, R199). -/
def State.periodEnds (th : Thermistors) (order : PeriodOrder) (s : State) : State :=
  let rest := s.hli.rest
  let due := s.samplePointDue
  let s := (if due then s.samplePoint th else s).fanChecks
  ((s.superviseInOrder order due rest).opticsInOrder order rest).openFanPeriods

end Sys2Proof.Machine
end

