-- ==== Sys2Proof/Machine/ThermalCommands.lean ====
section
/-! DEFINITION. The thermal supervisor's commands: CONTROL_PERIOD_END, RUN_ON_LIMIT_EXPIRY, SET_LIGHT_MODE, CLEAR_EMERGENCY. -/

namespace Sys2Proof.Machine

/-- CONTROL_PERIOD_END (R54). -/
def execControlPeriodEnd (th : Thermistors) (order : PeriodOrder) (s : State) : Host.Outcome State Fault Refusal :=
  s.perform fun s => (s.clockTo s.tsv.periodDue).periodEnds th order

/-- RUN_ON_LIMIT_EXPIRY (R73). -/
def execRunOnLimitExpiry (s : State) : Host.Outcome State Fault Refusal :=
  s.perform fun s =>
    match s.tsv.runOn with
    | some began => (s.clockTo (began + 600000)).endRunOn .timeLimit began
    | none => s

/-- R63: a requested light-mode maximum as taken. -/
def clampLightMode (level : Nat) : Nat := max 300 (min 1000 level)

/-- SET_LIGHT_MODE (R63). -/
def execSetLightMode (payload : List Byte) (s : State) : Host.Outcome State Fault Refusal :=
  s.performRequest .setLightMode payload fun s =>
    s.withForm .setLightMode (parse2 payload) fun level s =>
      let taken := clampLightMode level
      let s := s.setLightMode taken
      s.respond .setLightMode (if taken = level then .ok else .okClamped) (u16 taken ++ u16 s.tsv.lightMax)

/-- R62: the reasons that hold against CLEAR_EMERGENCY in EMERGENCY. The value handed on at the last period end is compared with the
warning threshold in force, also where an installation commit has changed that threshold since: the model's choice
(notes/assumptions/39.md). -/
def State.clearingReasons (s : State) : List Reason :=
  (if s.firstWarning.isSome then [.warning] else []) ++ (if (s.fanOf .f2).st = .failed then [.fanFailed] else [])
    ++ (if s.lel.st = .up then [] else [.linkNotUp])

/-- R62: the lowest channel at its warning threshold, named beside the reasons. -/
def State.warningByte (s : State) : List Byte :=
  match s.firstWarning with
  | some c => u8 c.index
  | none => []

/-- R62: the regime becomes PROTECT, at the floor. -/
def State.clearEmergency (s : State) : State :=
  s.changeRegime .protect { cause := .clearedByHost, index := none } (fun t => { t with ceiling := t.floor })

/-- CLEAR_EMERGENCY (R62). -/
def execClearEmergency (payload : List Byte) (s : State) : Host.Outcome State Fault Refusal :=
  s.performRequest .clearEmergency payload fun s =>
    s.withForm .clearEmergency (parse0 payload) fun _ s =>
      if s.tsv.regime ≠ .emergency then s.refuse .clearEmergency .conditions [.notInEmergency]
      else if s.clearingReasons.isEmpty then s.clearEmergency.respond .clearEmergency .ok []
      else s.respond .clearEmergency .conditions (reasonBytes s.clearingReasons ++ s.warningByte)

end Sys2Proof.Machine
end

