-- ==== Sys2Proof/Machine/Dispatch.lean ====
section
/-! DEFINITION. The dispatch: one arm per command of the opcode table, in the table's order. -/

namespace Sys2Proof.Machine

def exec (i : Instr) (s : State) : Host.Outcome State Fault Refusal :=
  match i with
  | .powerOnReset mount => Sys2Proof.Machine.execPowerOnReset mount s
  | .resetN => Sys2Proof.Machine.execResetN s
  | .loadingEnd => Sys2Proof.Machine.execLoadingEnd s
  | .controlPeriodEnd th order => Sys2Proof.Machine.execControlPeriodEnd th order s
  | .spinupExpiry fan => Sys2Proof.Machine.execSpinupExpiry fan s
  | .kickExpiry fan => Sys2Proof.Machine.execKickExpiry fan s
  | .allowanceTailExpiry => Sys2Proof.Machine.execAllowanceTailExpiry s
  | .testStepEnd => Sys2Proof.Machine.execTestStepEnd s
  | .runOnLimitExpiry => Sys2Proof.Machine.execRunOnLimitExpiry s
  | .advert frame => Sys2Proof.Machine.execAdvert frame s
  | .telemetry frame => Sys2Proof.Machine.execTelemetry frame s
  | .linkFrameError => Sys2Proof.Machine.execLinkFrameError s
  | .interbyteTimeout => Sys2Proof.Machine.execInterbyteTimeout s
  | .txFrameEnd => Sys2Proof.Machine.execTxFrameEnd s
  | .solicitTimerExpiry => Sys2Proof.Machine.execSolicitTimerExpiry s
  | .noticeTimerExpiry => Sys2Proof.Machine.execNoticeTimerExpiry s
  | .lossTimerExpiry => Sys2Proof.Machine.execLossTimerExpiry s
  | .reductionDeadlineExpiry => Sys2Proof.Machine.execReductionDeadlineExpiry s
  | .axisStep axis endstop => Sys2Proof.Machine.execAxisStep axis endstop s
  | .energiseExpiry axis => Sys2Proof.Machine.execEnergiseExpiry axis s
  | .holdStageExpiry axis => Sys2Proof.Machine.execHoldStageExpiry axis s
  | .endstopChange axis endstop => Sys2Proof.Machine.execEndstopChange axis endstop s
  | .fetch payload => Sys2Proof.Machine.execFetch payload s
  | .status payload lock => Sys2Proof.Machine.execStatus payload lock s
  | .readEvents payload => Sys2Proof.Machine.execReadEvents payload s
  | .readCounters payload => Sys2Proof.Machine.execReadCounters payload s
  | .rest payload => Sys2Proof.Machine.execRest payload s
  | .restart payload => Sys2Proof.Machine.execRestart payload s
  | .setLightMode payload => Sys2Proof.Machine.execSetLightMode payload s
  | .setAcoustic payload => Sys2Proof.Machine.execSetAcoustic payload s
  | .fanForce payload => Sys2Proof.Machine.execFanForce payload s
  | .fanRelease payload => Sys2Proof.Machine.execFanRelease payload s
  | .fanTest payload => Sys2Proof.Machine.execFanTest payload s
  | .clearFan payload => Sys2Proof.Machine.execClearFan payload s
  | .clearEmergency payload => Sys2Proof.Machine.execClearEmergency payload s
  | .lensMoveTo payload => Sys2Proof.Machine.execLensMoveTo payload s
  | .lensMoveBy payload => Sys2Proof.Machine.execLensMoveBy payload s
  | .lensHome payload => Sys2Proof.Machine.execLensHome payload s
  | .lensStop payload => Sys2Proof.Machine.execLensStop payload s
  | .lensRecall payload => Sys2Proof.Machine.execLensRecall payload s
  | .lensBack payload => Sys2Proof.Machine.execLensBack payload s
  | .setOverrange payload => Sys2Proof.Machine.execSetOverrange payload s
  | .setDriftMode payload => Sys2Proof.Machine.execSetDriftMode payload s
  | .setKeystone payload => Sys2Proof.Machine.execSetKeystone payload s
  | .setZoom payload => Sys2Proof.Machine.execSetZoom payload s
  | .meshPeek payload => Sys2Proof.Machine.execMeshPeek payload s
  | .storeOpen payload lock => Sys2Proof.Machine.execStoreOpen payload lock s
  | .storeWrite payload => Sys2Proof.Machine.execStoreWrite payload s
  | .storeCommit payload lock => Sys2Proof.Machine.execStoreCommit payload lock s
  | .storeAbandon payload => Sys2Proof.Machine.execStoreAbandon payload s
  | .storeRead payload => Sys2Proof.Machine.execStoreRead payload s
  | .unknownKind kind payload => Sys2Proof.Machine.execUnknownKind kind payload s
  | .hostFrameInvalid kind => Sys2Proof.Machine.execHostFrameInvalid kind s
  | .pureRead received => Sys2Proof.Machine.execPureRead received s
  | .programmingEnd readsBack => Sys2Proof.Machine.execProgrammingEnd readsBack s
  | .buildComplete => Sys2Proof.Machine.execBuildComplete s
  | .burstStart clocked => Sys2Proof.Machine.execBurstStart clocked s
  | .burstEnd clocked => Sys2Proof.Machine.execBurstEnd clocked s
  | .burstLimitExpiry clocked => Sys2Proof.Machine.execBurstLimitExpiry clocked s
  | .frameSync => Sys2Proof.Machine.execFrameSync s
  | .syncAbsentExpiry => Sys2Proof.Machine.execSyncAbsentExpiry s
  | .tachPulse fan => Sys2Proof.Machine.execTachPulse fan s
  | .linkByteReceived byte => Sys2Proof.Machine.execLinkByteReceived byte s
  | .resetNRelease mount => Sys2Proof.Machine.execResetNRelease mount s
  | .transactionStart received => Sys2Proof.Machine.execTransactionStart received s

end Sys2Proof.Machine
end

