-- ==== Sys2Proof/Machine/Step.lean ====
section
/-! DEFINITION. The step: the command at the front of the queue is executed on the state with the rest of the queue. On an
empty queue one millisecond passes. -/

namespace Sys2Proof.Machine

/-- One millisecond in which no command arrives. Every timer runs against the clock, and its expiry is a command of its own
(notes/assumptions/1.md). -/
def State.tick (s : State) : State := { s with now := s.now + 1 }

/-- One step of the part. -/
def step (s : State) : Host.Outcome State Fault Refusal :=
  match s.pending with
  | [] => .next s.tick
  | c :: rest => exec c { s with pending := rest }

/-- A state with the command that a word spells at the front of its queue; unchanged where the word spells none. -/
def State.withFetchWord (s : State) (nbits w : Nat) : State :=
  match Sys2Proof.decodeTableWord nbits w with
  | some c => { s with pending := c :: s.pending }
  | none => s

end Sys2Proof.Machine
end

