-- ==== Sys2Proof/Safety.lean ====
section
/-! DEFINITION. The terms of the claims: the state in which the part serves requests, the invariants the manual states of its
event queue, banks, lens lists, ceiling, counters, fans and axes, a change of regime with its cause, and the store field table. -/

namespace Sys2Proof.Machine

/-- R190, R196: a complete request frame is handed to its block: READY is asserted, RESET_n is high, and the transaction was
not cut off by a reset. -/
def State.Serving (s : State) : Prop := s.inReset = false ∧ s.hli.line ≠ .cut ∧ s.hli.ready = true

/-- R188, R190, R199: the state a request acts on: its transaction is over, and Rest has ended if it was in force. -/
def State.taken (s : State) : State := s.lineIdle.endRest

/-- R190: a state with a response in its response buffer: its status, the kind it echoes, its payload. -/
def State.answer (s : State) (status : Nat) (kind : Byte) (payload : List Byte) : State :=
  { s with hli := { s.hli with response := { status := status, kind := kind, payload := payload } } }

/-- R193, R195: the event queue holds no two entries of one kind, and every count lies in 1 … 255. -/
def QueueOk (q : List QueueEntry) : Prop :=
  (q.map (fun e => e.detail.kind)).Nodup ∧ ∀ e ∈ q, 1 ≤ e.count ∧ e.count ≤ 255

/-- R159, R163, R173: the bank the pointer names is LIVE and the other is not; the other is BUILDING exactly while a build on it
is in flight; a burst is served from the live bank; no burst is in progress while RESET_n is low. -/
def BanksOk (s : State) : Prop :=
  s.scp.stateOf s.scp.live = .live ∧ s.scp.stateOf s.scp.live.other ≠ .live ∧
  (s.scp.stateOf s.scp.live.other = .building ↔ s.mse.build.isSome = true) ∧
  (∀ b, s.mse.build = some b → b.target = s.scp.live.other) ∧
  (∀ k phase due, s.scp.line = .burst k phase due → k = s.scp.live ∧ s.inReset = false)

/-- R117: the request queue holds at most 4 requests, the history at most 6 entries, the outcome list at most 4. -/
def LensListsOk (l : LncBlock) : Prop := l.queue.length ≤ 4 ∧ l.history.length ≤ 6 ∧ l.outcomes.length ≤ 4

/-- R63, R64, R69: M is the larger of the requested maximum and the floor; outside EMERGENCY the computed ceiling lies in
F … M, and in EMERGENCY it is 0. -/
def CeilingOk (t : TsvBlock) : Prop :=
  t.lightMax = max t.requested t.floor ∧
  (if t.regime = .emergency then t.ceiling = 0 else t.floor ≤ t.ceiling ∧ t.ceiling ≤ t.lightMax)

/-- R195: every saturating counter that READ_COUNTERS returns stays within 0 … 255. -/
def CountersOk (s : State) : Prop := ∀ n ∈ s.counters, n ≤ 255

/-- R38: under EMERGENCY Rest is not in force, every fan is driven at full duty, and no host override or fan test is in effect.
A fan in TEST is the fan whose turn it is (R49). -/
def EmergencyFansOk (s : State) : Prop :=
  (∀ f, (s.fanOf f).st = .test → ∃ r, s.fan.test.run = some r ∧ r.fan = f) ∧
  (s.tsv.regime = .emergency →
    s.hli.rest = false ∧ s.fan.test.run = none ∧ ∀ f, 1000 ≤ (s.fanOf f).duty ∧ (s.fanOf f).override = none)

/-- R36: under NORMAL, outside Rest, no fan whose duty the chain sets is commanded above its cap limit. With it, what the fans'
timers and the running test mean: a SPINUP timer runs only in SPINUP, a KICK timer only in KICK, and the fan whose turn it is
is in TEST (R30, R42, R49). -/
def CapOk (s : State) : Prop :=
  (∀ f, (s.fanOf f).spinupDue.isSome = true → (s.fanOf f).st = .spinup) ∧
  (∀ f, (s.fanOf f).kickDue.isSome = true → (s.fanOf f).st = .kick) ∧
  (∀ r, s.fan.test.run = some r → (s.fanOf r.fan).st = .test) ∧
  (s.tsv.regime = .normal → s.hli.rest = false → ∀ f, s.source f = none → (s.fanOf f).duty ≤ s.capLimit f)

/-- R96, R99: AX-V is RELEASED, or ENERGISING from RELEASED, only while the record in force marks it self-locking. -/
def VHoldOk (s : State) : Prop :=
  (s.axis .v).hold = .released ∨ (s.axis .v).st = .energising → s.cfg.params.vSelfLocking = true

/-- R64, R70, R80: the floor is the resolved advertisement's smallest level, an advertisement in force passed every check of R79,
and the notice ceiling that the link holds is the one last handed over, resolved from the state as it stands. -/
def NoticeOk (s : State) : Prop :=
  (match s.lel.resolved with
   | none => s.tsv.floor = 0
   | some a => a.reject = none ∧ s.tsv.floor = a.floor) ∧
  s.lel.n = s.tsv.handedN ∧
  ∀ n, s.tsv.handedN = some n → n = noticeFor s.tsv.regime s.lel.resolved s.tsv.ceiling s.tsv.floor

/-- R93, R99 to R103: a referenced axis lies within its travel. An axis that is IDLE, MOVING or SUSPENDED is referenced, and so
is one that has a move order, which is not HOMING and whose target lies within the travel; one that is ENERGISING without a
reference has a home order. A segment in progress runs from where the axis stands toward a goal within the travel, its
deceleration ending no later than the segment. -/
def AxisOk (limit : Nat) (x : Axis) : Prop :=
  (∀ pos, x.pos = some pos → pos ≤ limit) ∧
  (x.st = .idle ∨ x.st = .moving ∨ x.st = .suspended → x.pos ≠ none) ∧
  (∀ target, x.order = some (.move target) → target ≤ limit ∧ x.pos ≠ none ∧ x.st ≠ .homing) ∧
  (x.st = .energising → x.pos = none → ∃ origin, x.order = some (.home origin)) ∧
  (∀ m, x.st = .moving → x.motion = some m →
    m.goal ≤ limit ∧ (∀ target, x.order = some (.move target) → m.goal ≤ target) ∧
    ∃ pos, x.pos = some pos ∧ (if x.dirUp then pos < m.goal else m.goal < pos) ∧
      match m.stopping with
      | .no => True
      | .halt n | .hold n => 1 ≤ n ∧ n ≤ (m.goal - pos) + (pos - m.goal))

/-- R93, R95: both axes meet `AxisOk` under the travel limits in force, and an axis in motion turns at FULL current, at REDUCED
under forced reduced hold, with its hold stage timer stopped. -/
def AxesOk (s : State) : Prop :=
  ∀ a, AxisOk (s.axisParams a).travelLimit (s.axis a) ∧
    ((s.axis a).st.inMotion = true →
      (s.axis a).hold = (if s.axc.forced then .reduced else .full) ∧ (s.axis a).holdDue = none)

/-- R123 to R125, R127, R136, R137: `t` holds what the start of a request `r` makes of the lens block of `b`, where no other entry
waits. Each moved axis that is referenced takes its overrange residual by the mode. V takes its drift by the origin: a move, a
move back or a home drops it, and a recall forms it again from the preset's Tcal; the applied drift at a kept HOME and at a HOME of
an unreferenced V is the model's reading (notes/assumptions/14.md). Where every named axis answers at once the
request completes, with the worst answer as its outcome; else it executes with the answers given so far. The geometry unit holds
the residuals, and the preset's geometry where it has one. -/
def RequestStarted (b : State) (r : Request) (t : State) : Prop :=
  let l := b.lnc
  let limit : Int := (b.axisParams .v).travelLimit
  let beyond (a : AxisId) : Int := match r.parts.get a, (b.axis a).pos with
    | some (.move _ _ rem), some _ => if l.overrangeMode = .digital then rem else 0
    | _, _ => l.overrange.get a
  let away (n : Int) : Int := if 0 ≤ n then (2 * n + 160) / 320 else -((2 * (-n) + 160) / 320)
  let barrel : Option Temp := if b.quality .s3 = .known then b.working .s3 else none
  let recalled : Option Temp := r.preset.bind (fun p => p.tcal)
  let dp : Int := match recalled, barrel with
    | some t0, some s3 => max (-400) (min 400 (away (b.cfg.params.kd * (s3 - t0))))
    | _, _ => 0
  let held (z : Int) : Int := max 0 (min limit (z + dp)) - z
  let drift : Option Temp × Int × Int × Int := match r.parts.v, (b.axis .v).pos with
    | some (.move z _ _), some _ =>
      if r.origin = .recall then
        (match l.driftMode with
         | .motor => (recalled, dp, held z, dp - held z)
         | .digital => (recalled, dp, 0, dp)
         | .off => (recalled, dp, 0, 0))
      else (l.tcal, l.desired, 0, 0)
    | some .home, pos => (l.tcal, l.desired, if pos ≠ none ∨ b.axc.held = false then 0 else l.applied, l.driftResidual)
    | _, _ => (l.tcal, l.desired, l.applied, l.driftResidual)
  let tcal := drift.1
  let desired := drift.2.1
  let applied := drift.2.2.1
  let residual := drift.2.2.2
  let target (a : AxisId) (z : Int) : Nat := (b.convert a (max 0 (min ((b.axisParams a).travelLimit : Int)
    (if a = .v then z + applied else z)))).toNat
  let answer (a : AxisId) : Option AxisAnswer := match r.parts.get a, (b.axis a).st with
    | some (.move z _ _), .idle => if b.axc.held = false ∧ (b.axis a).pos = some (target a z) then some .ok else none
    | some (.move _ _ _), .unreferenced => some .notReferenced
    | some (.move _ _ _), .fault => some .axisFault
    | _, _ => none
  let outcome (a : AxisId) : Option LensOutcome := match r.parts.get a, answer a with
    | some (.move _ true _), some .ok => some .clamped
    | _, x => x.map (fun x => x.outcome)
  let worst : LensOutcome := match outcome .h, outcome .v with
    | some x, some y => if x.code < y.code then y else x
    | some x, none | none, some x => x
    | none, none => .ok
  let completes := ∀ a, r.parts.get a ≠ none → answer a ≠ none
  let captures := r.origin ≠ .recall ∧ answer .v = some .ok
  let o : OutcomeEntry := { tag := r.tag, origin := r.origin, outcome := worst, axes := { h := outcome .h, v := outcome .v } }
  let started : LncBlock :=
    { l with queue := [], overrange := { h := beyond .h, v := beyond .v }, tcal := tcal, desired := desired
             applied := applied, driftResidual := residual }
  (¬ completes → t.lnc =
    { started with executing := some { request := r, answers := { h := answer .h, v := answer .v } } }) ∧
  (completes →
    t.lnc = { started with executing := none
                           tcal := if captures then barrel else tcal
                           desired := if captures then 0 else desired
                           outcomes := (if 4 ≤ l.outcomes.length then l.outcomes.drop 1 else l.outcomes) ++ [o] } ∧
    ∃ q ∈ t.hli.queue, q.detail = .lensDone o
      { h := if r.parts.h = none then none else b.screen .h
        v := if r.parts.v = none then none else (b.screen .v).map (fun p => p - applied) }) ∧
  t.geo.residual = { h := beyond .h, v := beyond .v + residual } ∧
  (∀ g, r.preset.bind (fun p => p.geometry) = some g → t.geo.keystone = g.keystone ∧ t.geo.zoom = g.zoom) ∧
  (r.preset.bind (fun p => p.geometry) = none → t.geo.keystone = b.geo.keystone ∧ t.geo.zoom = b.geo.zoom)

/-- R118 to R125, R94, R99 to R101, R103, R110: `t` is what an accepted lens request `r` leaves of `b`, the state that its acceptance
has otherwise formed. The oldest entry of the queue waits while a request executes, a drift correction is in flight or an
axis it names is not at rest without an order. Where `r` is the oldest and waits for nothing, it starts: a moved axis that
is referenced starts for its motor target, is kept SUSPENDED under motion hold, or answers where it stands at its target
already; one that is not referenced changes nothing; a homed axis loses its reference and starts, or keeps its HOME. The lens
block is then that of `RequestStarted`. -/
def LensAccepted (b : State) (kind : Byte) (r : Request) (t : State) : Prop :=
  let free (a : AxisId) : Prop :=
    ((b.axis a).st = .idle ∨ (b.axis a).st = .unreferenced ∨ (b.axis a).st = .fault) ∧ (b.axis a).order = none ∧
      (b.axis a).keptHome = false
  let first := (b.lnc.queue ++ [r]).headD r
  let waits := b.lnc.executing ≠ none ∨ b.lnc.correction ≠ none ∨ ∃ a, first.parts.get a ≠ none ∧ ¬ free a
  let motion : HoldLevel := if b.axc.forced then .reduced else .full
  t = { b.answer 0x02 kind [] with
        fan := { b.fan with allowance := t.fan.allowance, tailDue := t.fan.tailDue }
        axc := { b.axc with axes := t.axc.axes }
        lnc := t.lnc
        geo := t.geo
        mse := { b.mse with build := t.mse.build }
        scp := { b.scp with stateA := t.scp.stateA, stateB := t.scp.stateB }
        hli := { (b.answer 0x02 kind []).hli with queue := t.hli.queue } } ∧
  (waits → t = { b.answer 0x02 kind [] with lnc := { b.lnc with queue := b.lnc.queue ++ [r] } }) ∧
  (b.lnc.queue = [] → ¬ waits →
    t.lnc.queue = [] ∧ RequestStarted b r t ∧
    ∀ a,
      (r.parts.get a = none → t.axis a = b.axis a) ∧
      (∀ p, r.parts.get a = some p → ∀ z c rem, p = .move z c rem →
        let x := b.axis a
        let target := (b.convert a (max 0 (min ((b.axisParams a).travelLimit : Int)
          (if a = .v then z + t.lnc.applied else z)))).toNat
        (x.st ≠ .idle → t.axis a = x) ∧
        (x.st = .idle → b.axc.held = true →
          t.axis a = { x with st := .suspended, order := some (.move target), hold := .reduced, holdDue := none }) ∧
        (x.st = .idle → b.axc.held = false → x.pos = some target → t.axis a = x) ∧
        (x.st = .idle → b.axc.held = false → x.pos ≠ some target → x.hold = .released →
          t.axis a = { x with st := .energising, order := some (.move target), hold := motion, holdDue := none
                              energiseDue := some (b.now + 50) }) ∧
        (∀ pos, x.pos = some pos → x.st = .idle → b.axc.held = false → pos ≠ target → x.hold ≠ .released →
          t.axis a = { x with st := .moving, order := some (.move target), hold := motion, holdDue := none, energiseDue := none
                              motion := some { goal := if pos < target then target
                                                       else target - (b.axisParams a).backlash
                                               run := 0, stopping := .no }
                              dirUp := decide (pos < target) })) ∧
      (r.parts.get a = some .home →
        let x := b.axis a
        (b.axc.held = true → t.axis a = { x with order := some (.home .request), keptHome := true }) ∧
        (b.axc.held = false →
          (t.axis a).pos = none ∧ (t.axis a).order = some (.home .request) ∧ (t.axis a).hold = motion ∧
          (t.axis a).holdDue = none ∧
          (x.hold = .released → (t.axis a).st = .energising ∧ (t.axis a).energiseDue = some (b.now + 50)) ∧
          (x.hold ≠ .released → (t.axis a).st = .homing ∧ (t.axis a).dirUp = x.endstop ∧
            (t.axis a).homing = some (if x.endstop then .backOff 0 else .seek 0 (b.axisParams a).travelLimit)))))

/-- R47, R60, R61: `t` is left by a change of the regime that `s` holds to `new`, named with the cause `k` and its channel or fan:
the entry cause is `k`, and REGIME_CHANGED stands in the queue with the previous and the new regime and `k`. An entry into
PROTECT or EMERGENCY removes every host override, and raises OVERRIDE_CLEARED with the fans cleared where there was one; else
no OVERRIDE_CLEARED is raised. -/
def RegimeChanged (s : State) (new : Regime) (k : CauseAt) (t : State) : Prop :=
  t.tsv.regime = new ∧ t.tsv.entryCause = some k ∧
  (∃ q ∈ t.hli.queue, q.detail = .regimeChanged s.tsv.regime new k) ∧
  (let cleared := [FanId.f0, .f1, .f2, .f3].filter (fun f => (s.fanOf f).override.isSome)
   (new ≠ .normal → ∀ f, (t.fanOf f).override = none) ∧
   (new ≠ .normal → cleared ≠ [] → ∃ q ∈ t.hli.queue, q.detail = .overrideCleared cleared new) ∧
   (new = .normal → ∀ f, (t.fanOf f).override = (s.fanOf f).override) ∧
   (new = .normal ∨ cleared = [] → ∀ q ∈ t.hli.queue, q.detail.kind = 0x05 → q ∈ s.hli.queue))

/-! ## The store field table (R6 to R8, R174, R176) -/

/-- A number of two bytes, most significant first. -/
def wordBytes (n : Nat) : List Byte := [BitVec.ofNat 8 (n / 256), BitVec.ofNat 8 n]

/-- A temperature, or another signed number of two bytes. -/
def signedBytes (z : Int) : List Byte := wordBytes (z % 65536).toNat

/-- A list: its count byte and its elements in order. -/
def countedBytes {α : Type} (element : α → List Byte) (l : List α) : List Byte :=
  BitVec.ofNat 8 l.length :: l.flatMap element

/-- R176, R180: `code` and `index` name a field of the record `r`, whose values are the `a` that `ok` admits, each carried as
`bytes a`. A value that carries such an `a` is taken as `put a`, whole, and reads back as it was written; every other value is
outside the field's range or form. -/
def FieldTaken {α : Type} (r : RecordFields) (code index : Nat) (bytes : α → List Byte) (ok : α → Prop)
    (put : α → RecordFields) : Prop :=
  r.read code index ≠ none ∧
  (∀ a, ok a → r.write code index (bytes a) = .taken (put a) ∧ (put a).read code index = some (bytes a)) ∧
  ∀ v, (∀ a, ok a → v ≠ bytes a) → r.write code index v = .range

/-- `code` and `index` name a field of two bytes, a number `low` … `high`. -/
def WordField (r : RecordFields) (code index low high : Nat) (put : Nat → RecordFields) : Prop :=
  FieldTaken r code index wordBytes (fun n => low ≤ n ∧ n ≤ high) put

/-- `code` and `index` name a temperature field, `low` … `high` tenths of a degree. -/
def TempField (r : RecordFields) (code index : Nat) (low high : Int) (put : Temp → RecordFields) : Prop :=
  FieldTaken r code index signedBytes (fun z => low ≤ z ∧ z ≤ high) put

/-- `code` and `index` name a field of one byte, the place of its value in `values`. -/
def ListedField {α : Type} [DecidableEq α] (r : RecordFields) (code index : Nat) (values : List α) (put : α → RecordFields) :
    Prop :=
  FieldTaken r code index (fun a => [BitVec.ofNat 8 (values.idxOf a)]) (fun a => a ∈ values) put

/-- R6 to R8, R174, R176: the fields of the installation record `p`, each with its code, its index, its form and range, and the
one parameter it sets; there are no others. -/
def InstallFields (p : Install) : Prop :=
  let r := RecordFields.install p
  ListedField r 0x01 0 [OrientationSource.strap, .table, .ceiling] (fun x => .install { p with source := x }) ∧
  (∀ a : AxisId,
    let x := p.axes.get a
    let field (code low high : Nat) (put : Nat → AxisParams) : Prop :=
      WordField r code (match a with | .h => 0 | .v => 1) low high (fun n => .install { p with axes := p.axes.set a (put n) })
    field 0x02 1000 20000 (fun n => { x with travelLimit := n }) ∧ field 0x03 0 255 (fun n => { x with backlash := n }) ∧
    field 0x04 100 1200 (fun n => { x with topSpeed := n }) ∧ field 0x05 100 10000 (fun n => { x with acceleration := n }) ∧
    field 0x06 0 1024 (fun n => { x with pixelsPerStep := n }) ∧ field 0x07 500 10000 (fun n => { x with holdTime := n }) ∧
    FieldTaken r 0x08 (match a with | .h => 0 | .v => 1) wordBytes (fun n => n = 0 ∨ 5 ≤ n ∧ n ≤ 600)
      (fun n => .install { p with axes := p.axes.set a { x with releaseTime := n } })) ∧
  ListedField r 0x09 0 [false, true] (fun x => .install { p with vSelfLocking := x }) ∧
  ListedField r 0x0A 0 [false, true] (fun x => .install { p with homeAtStart := x }) ∧
  FieldTaken r 0x0B 0 (fun z => [BitVec.ofInt 8 z]) (fun z => -128 ≤ z ∧ z ≤ 127) (fun z => .install { p with kd := z }) ∧
  (∀ c : Chan,
    let x := p.channels.get c
    let field (code : Nat) (low high : Int) (put : Temp → ChannelParams) : Prop :=
      TempField r code c.index low high (fun z => .install { p with channels := p.channels.set c (put z) })
    field 0x0C 200 1300 (fun z => { x with warning := z }) ∧ field 0x0D 250 1400 (fun z => { x with critical := z }) ∧
    field 0x0E 200 1300 (fun z => { x with derate := z })) ∧
  FieldTaken r 0x0F 0 (countedBytes (fun c : Chan => [BitVec.ofNat 8 c.index])) (fun l => l.length ≤ 4 ∧ l.Nodup)
    (fun l => .install { p with derateSet := l }) ∧
  TempField r 0x10 0 400 1200 (fun z => .install { p with motorReduce := z }) ∧
  TempField r 0x11 0 450 1250 (fun z => .install { p with motorHold := z }) ∧
  TempField r 0x12 0 300 700 (fun z => .install { p with runOnRelease := z }) ∧
  (∀ f : FanId,
    let x := p.fans.get f
    let put (y : FanParams) : RecordFields := .install { p with fans := p.fans.set f y }
    let curve (set : Nat) (y : List Breakpoint → FanParams) : Prop :=
      FieldTaken r 0x16 (f.index * 2 + set) (countedBytes (fun b : Breakpoint => signedBytes b.temp ++ wordBytes b.duty))
        (fun l => 2 ≤ l.length ∧ l.length ≤ 6 ∧ ∀ b ∈ l, -300 ≤ b.temp ∧ b.temp ≤ 1400 ∧ b.duty ≤ 1000) (fun l => put (y l))
    WordField r 0x13 f.index 100 500 (fun n => put { x with minDuty := n }) ∧
    WordField r 0x14 f.index 1000 6000 (fun n => put { x with fullSpeed := n }) ∧
    FieldTaken r 0x15 f.index
      (countedBytes (fun e : GoverningEntry => BitVec.ofNat 8 e.channel.index :: signedBytes e.offset))
      (fun l => 1 ≤ l.length ∧ l.length ≤ 4 ∧ ∀ e ∈ l, -200 ≤ e.offset ∧ e.offset ≤ 200)
      (fun l => put { x with governing := l }) ∧
    curve 0 (fun l => { x with curveT := l }) ∧ curve 1 (fun l => { x with curveC := l }) ∧
    WordField r 0x17 (f.index * 3) 100 1000 (fun n => put { x with capQuiet := n }) ∧
    WordField r 0x17 (f.index * 3 + 1) 100 1000 (fun n => put { x with capStandard := n }) ∧
    WordField r 0x17 (f.index * 3 + 2) 100 1000 (fun n => put { x with capHigh := n })) ∧
  WordField r 0x18 0 0 1000 (fun n => .install { p with motionAllowance := n }) ∧
  WordField r 0x19 0 300 1000 (fun n => .install { p with fanLossCeiling := n }) ∧
  ∀ (code index : Nat) (v : List Byte),
    (match code with
     | 0x01 | 0x09 | 0x0A | 0x0B | 0x0F | 0x10 | 0x11 | 0x12 | 0x18 | 0x19 => 1
     | 0x02 | 0x03 | 0x04 | 0x05 | 0x06 | 0x07 | 0x08 => 2
     | 0x13 | 0x14 | 0x15 => 4
     | 0x0C | 0x0D | 0x0E | 0x16 => 8
     | 0x17 => 12
     | _ => 0) ≤ index → r.write code index v = .noField ∧ r.read code index = none

/-- R140, R176: a keystone value as the table carries it: the form, then the values of that form. -/
def keystoneBytes : Keystone → List Byte
  | .slope kv kh => 0#8 :: (signedBytes kv ++ signedBytes kh)
  | .corners tl tr br bl => 1#8 :: [tl, tr, br, bl].flatMap (fun c => signedBytes c.dx ++ signedBytes c.dy)

/-- R140: every value of a keystone lies in its range. -/
def KeystoneTaken : Keystone → Prop
  | .slope kv kh => (-300 ≤ kv ∧ kv ≤ 300) ∧ -300 ≤ kh ∧ kh ≤ 300
  | .corners tl tr br bl => ∀ c ∈ [tl, tr, br, bl], (0 ≤ c.dx ∧ c.dx ≤ 960) ∧ 0 ≤ c.dy ∧ c.dy ≤ 540

/-- R174, R176: the fields of the working-settings record `w`, all of index 0; there are no others. -/
def WorkingFields (w : Working) : Prop :=
  let r := RecordFields.working w
  WordField r 0x01 0 300 1000 (fun n => .working { w with lightMode := n }) ∧
  ListedField r 0x02 0 [Profile.quiet, .standard, .high] (fun x => .working { w with profile := x }) ∧
  FieldTaken r 0x03 0 keystoneBytes KeystoneTaken (fun k => .working { w with keystone := k }) ∧
  WordField r 0x04 0 768 1024 (fun n => .working { w with zoom := n }) ∧
  ListedField r 0x05 0 [OverrangeMode.clamp, .digital] (fun x => .working { w with overrangeMode := x }) ∧
  ListedField r 0x06 0 [DriftMode.off, .motor, .digital] (fun x => .working { w with driftMode := x }) ∧
  ∀ (code index : Nat) (v : List Byte), code = 0 ∨ 0x06 < code ∨ 0 < index →
    r.write code index v = .noField ∧ r.read code index = none

/-- R174, R176: the fields of preset `k` with the contents `p`, all of index 0; there are no others. -/
def PresetFields (k : Fin 10) (p : Preset) : Prop :=
  let r := RecordFields.preset k p
  let position : Option Nat → List Byte
    | some n => wordBytes n
    | none => [0xFF#8, 0xFF#8]
  FieldTaken r 0x01 0 (countedBytes (fun c : Byte => [c]))
    (fun l => l.length ≤ 12 ∧ ∀ c ∈ l, 0x20 ≤ c.toNat ∧ c.toNat ≤ 0x7E) (fun l => .preset k { p with name := l }) ∧
  FieldTaken r 0x02 0 position (fun x => x.getD 0 ≤ 20000) (fun x => .preset k { p with hPos := x }) ∧
  FieldTaken r 0x03 0 position (fun x => x.getD 0 ≤ 20000) (fun x => .preset k { p with vPos := x }) ∧
  FieldTaken r 0x04 0 (fun x => match x with | some z => signedBytes z | none => [0x80#8, 0x00#8])
    (fun x : Option Temp => -300 ≤ x.getD 0 ∧ x.getD 0 ≤ 1400) (fun x => .preset k { p with tcal := x }) ∧
  FieldTaken r 0x05 0 (fun x => match x with | some g => keystoneBytes g.keystone ++ wordBytes g.zoom | none => [0xFF#8])
    (fun x : Option GeometryPart => ∀ g, x = some g → KeystoneTaken g.keystone ∧ 768 ≤ g.zoom ∧ g.zoom ≤ 1024)
    (fun x => .preset k { p with geometry := x }) ∧
  ∀ (code index : Nat) (v : List Byte), code = 0 ∨ 0x05 < code ∨ 0 < index →
    r.write code index v = .noField ∧ r.read code index = none

/-- R6 to R8, R174, R176: the defaults of the table: of an axis its seven parameters, of a channel its three, of a fan its
speeds, governing set, curves and caps. -/
def FieldDefaults : Prop :=
  let reads (r : RecordFields) (code index : Nat) (v : List Byte) : Prop := r.read code index = some v
  let i := RecordId.install.defaults
  let w := RecordId.working.defaults
  let curve (l : List (Int × Nat)) : List Byte := countedBytes (fun b => signedBytes b.1 ++ wordBytes b.2) l
  let governing (l : List (Nat × Int)) : List Byte := countedBytes (fun e => BitVec.ofNat 8 e.1 :: signedBytes e.2) l
  reads i 0x01 0 [0#8] ∧ reads i 0x09 0 [0#8] ∧ reads i 0x0A 0 [1#8] ∧ reads i 0x0B 0 [0#8] ∧
  (∀ x ∈ [(0x02, 6000, 12000), (0x03, 40, 40), (0x04, 800, 600), (0x05, 2000, 2000), (0x06, 128, 128), (0x07, 2000, 2000),
          (0x08, 30, 30)], reads i x.1 0 (wordBytes x.2.1) ∧ reads i x.1 1 (wordBytes x.2.2)) ∧
  (∀ x ∈ [(0, 400, 500, 350), (1, 600, 750, 550), (2, 650, 800, 580), (3, 550, 700, 500), (4, 850, 1000, 800),
          (5, 900, 1050, 850), (6, 800, 950, 720), (7, 800, 950, 720)],
    reads i 0x0C x.1 (signedBytes x.2.1) ∧ reads i 0x0D x.1 (signedBytes x.2.2.1) ∧ reads i 0x0E x.1 (signedBytes x.2.2.2)) ∧
  reads i 0x0F 0 [3#8, 2#8, 6#8, 7#8] ∧
  reads i 0x10 0 (signedBytes 750) ∧ reads i 0x11 0 (signedBytes 850) ∧ reads i 0x12 0 (signedBytes 450) ∧
  (∀ x ∈ [(0, 2400, [(0, 0)], 500, 750), (1, 2400, [(1, 0), (4, -200)], 500, 750),
          (2, 4200, [(6, 0), (7, 0), (2, -100)], 600, 800), (3, 3000, [(2, 0)], 500, 750)],
    reads i 0x13 x.1 (wordBytes 200) ∧ reads i 0x14 x.1 (wordBytes x.2.1) ∧ reads i 0x15 x.1 (governing x.2.2.1) ∧
    reads i 0x16 (x.1 * 2) (curve [(300, 250), (400, 400), (500, 700), (600, 1000)]) ∧
    reads i 0x16 (x.1 * 2 + 1) (curve [(280, 300), (380, 450), (480, 750), (580, 1000)]) ∧
    reads i 0x17 (x.1 * 3) (wordBytes x.2.2.2.1) ∧ reads i 0x17 (x.1 * 3 + 1) (wordBytes x.2.2.2.2) ∧
    reads i 0x17 (x.1 * 3 + 2) (wordBytes 1000)) ∧
  reads i 0x18 0 (wordBytes 150) ∧ reads i 0x19 0 (wordBytes 700) ∧
  reads w 0x01 0 (wordBytes 1000) ∧ reads w 0x02 0 [1#8] ∧ reads w 0x03 0 [0#8, 0#8, 0#8, 0#8, 0#8] ∧
  reads w 0x04 0 (wordBytes 1024) ∧ reads w 0x05 0 [0#8] ∧ reads w 0x06 0 [0#8] ∧
  ∀ k, let q := (RecordId.preset k).defaults
    reads q 0x01 0 [0#8] ∧ reads q 0x02 0 [0xFF#8, 0xFF#8] ∧ reads q 0x03 0 [0xFF#8, 0xFF#8] ∧
    reads q 0x04 0 [0x80#8, 0x00#8] ∧ reads q 0x05 0 [0xFF#8]

end Sys2Proof.Machine

namespace Sys2Proof

open Machine

/-- R190: the kind code and the payload of a command that is a complete request frame. -/
def Instr.request : Instr → Option (Byte × List Byte)
  | .fetch p => some (0x00#8, p)
  | .status p _ => some (0x01#8, p)
  | .readEvents p => some (0x02#8, p)
  | .readCounters p => some (0x03#8, p)
  | .rest p => some (0x04#8, p)
  | .restart p => some (0x05#8, p)
  | .setLightMode p => some (0x10#8, p)
  | .setAcoustic p => some (0x11#8, p)
  | .fanForce p => some (0x12#8, p)
  | .fanRelease p => some (0x13#8, p)
  | .fanTest p => some (0x14#8, p)
  | .clearFan p => some (0x15#8, p)
  | .clearEmergency p => some (0x16#8, p)
  | .lensMoveTo p => some (0x20#8, p)
  | .lensMoveBy p => some (0x21#8, p)
  | .lensHome p => some (0x22#8, p)
  | .lensStop p => some (0x23#8, p)
  | .lensRecall p => some (0x24#8, p)
  | .lensBack p => some (0x25#8, p)
  | .setOverrange p => some (0x26#8, p)
  | .setDriftMode p => some (0x27#8, p)
  | .setKeystone p => some (0x30#8, p)
  | .setZoom p => some (0x31#8, p)
  | .meshPeek p => some (0x32#8, p)
  | .storeOpen p _ => some (0x40#8, p)
  | .storeWrite p => some (0x41#8, p)
  | .storeCommit p _ => some (0x42#8, p)
  | .storeAbandon p => some (0x43#8, p)
  | .storeRead p => some (0x44#8, p)
  | .unknownKind k p => some (k, p)
  | .powerOnReset _ | .resetN | .loadingEnd | .controlPeriodEnd .. | .spinupExpiry _ | .kickExpiry _
  | .allowanceTailExpiry | .testStepEnd | .runOnLimitExpiry | .advert _ | .telemetry _ | .linkFrameError
  | .interbyteTimeout | .txFrameEnd | .solicitTimerExpiry | .noticeTimerExpiry | .lossTimerExpiry
  | .reductionDeadlineExpiry | .axisStep .. | .energiseExpiry _ | .holdStageExpiry _ | .endstopChange ..
  | .hostFrameInvalid _ | .pureRead _ | .programmingEnd _ | .buildComplete | .burstStart _ | .burstEnd _
  | .burstLimitExpiry _ | .frameSync | .syncAbsentExpiry | .tachPulse _ | .linkByteReceived _ | .resetNRelease _
  | .transactionStart _ => none

end Sys2Proof
end

