-- ==== Sys2Proof/WellFormed.lean ====
section
/-! DEFINITION. The well-formed commands: what the outside can bring with each. Nothing in the machine rests on it: a meaning is
given for every command. -/

namespace Sys2Proof

open Machine

/-- The raw range that a thermistor input converts, −40.0 to 150.0 °C (00_scope.md, physical characteristics). -/
def rawInRange (t : Temp) : Bool := -400 ≤ t && t ≤ 1500

def thermistorsWf (th : Thermistors) : Bool :=
  rawInRange th.th0 && rawInRange th.th1 && rawInRange th.th2 && rawInRange th.th3 && rawInRange th.th4 && rawInRange th.th5

/-- A number that two bytes of a frame carry. -/
def wordWf (n : Nat) : Bool := n < 65536

/-- The frame table of R76: the fields of an ADVERT, whose length byte admits at most eight levels. -/
def advertWf (a : AdvertFrame) : Bool :=
  wordWf a.minDrive && wordWf a.minRunOn && a.thermals < 256 && a.levels.length ≤ 8 && a.levels.all wordWf

/-- A thermal value other than the marker 8000h. -/
def thermalWf (t : Option Temp) : Bool :=
  match t with
  | some t => -32767 ≤ t && t ≤ 32767
  | none => true

/-- The frame table of R76: the fields of a TELEMETRY. -/
def telemetryWf (f : TelemetryFrame) : Bool := wordWf f.drive && thermalWf f.first && thermalWf f.second

/-- R190: the payload of a complete request frame. -/
def payloadWf (p : List Byte) : Bool := p.length ≤ 60

/-- R190: every request kind of the table. -/
def Machine.Kind.list : List Kind :=
  [.fetch, .status, .readEvents, .readCounters, .rest, .restart, .setLightMode, .setAcoustic, .fanForce, .fanRelease,
   .fanTest, .clearFan, .clearEmergency, .lensMoveTo, .lensMoveBy, .lensHome, .lensStop, .lensRecall, .lensBack,
   .setOverrange, .setDriftMode, .setKeystone, .setZoom, .meshPeek, .storeOpen, .storeWrite, .storeCommit,
   .storeAbandon, .storeRead]

/-- R190: a kind code that is in the table. -/
def knownKind (kind : Byte) : Bool := Kind.list.any (fun k => k.code == kind)

/-- R189: a transaction of fewer than 2 bytes. -/
def pureWf (received : List Byte) : Bool := received.length < 2

/-- The well-formed commands. -/
def Instr.wf : Instr → Bool
  | .powerOnReset _ => true
  | .resetN => true
  | .loadingEnd => true
  | .controlPeriodEnd th _ => thermistorsWf th
  | .spinupExpiry _ => true
  | .kickExpiry _ => true
  | .allowanceTailExpiry => true
  | .testStepEnd => true
  | .runOnLimitExpiry => true
  | .advert a => advertWf a
  | .telemetry f => telemetryWf f
  | .linkFrameError => true
  | .interbyteTimeout => true
  | .txFrameEnd => true
  | .solicitTimerExpiry => true
  | .noticeTimerExpiry => true
  | .lossTimerExpiry => true
  | .reductionDeadlineExpiry => true
  | .axisStep _ _ => true
  | .energiseExpiry _ => true
  | .holdStageExpiry _ => true
  | .endstopChange _ _ => true
  | .fetch p => payloadWf p
  | .status p _ => payloadWf p
  | .readEvents p => payloadWf p
  | .readCounters p => payloadWf p
  | .rest p => payloadWf p
  | .restart p => payloadWf p
  | .setLightMode p => payloadWf p
  | .setAcoustic p => payloadWf p
  | .fanForce p => payloadWf p
  | .fanRelease p => payloadWf p
  | .fanTest p => payloadWf p
  | .clearFan p => payloadWf p
  | .clearEmergency p => payloadWf p
  | .lensMoveTo p => payloadWf p
  | .lensMoveBy p => payloadWf p
  | .lensHome p => payloadWf p
  | .lensStop p => payloadWf p
  | .lensRecall p => payloadWf p
  | .lensBack p => payloadWf p
  | .setOverrange p => payloadWf p
  | .setDriftMode p => payloadWf p
  | .setKeystone p => payloadWf p
  | .setZoom p => payloadWf p
  | .meshPeek p => payloadWf p
  | .storeOpen p _ => payloadWf p
  | .storeWrite p => payloadWf p
  | .storeCommit p _ => payloadWf p
  | .storeAbandon p => payloadWf p
  | .storeRead p => payloadWf p
  | .unknownKind k p => !knownKind k && payloadWf p
  | .hostFrameInvalid _ => true
  | .pureRead r => pureWf r
  | .programmingEnd _ => true
  | .buildComplete => true
  | .burstStart _ => true
  | .burstEnd _ => true
  | .burstLimitExpiry _ => true
  | .frameSync => true
  | .syncAbsentExpiry => true
  | .tachPulse _ => true
  | .linkByteReceived _ => true
  | .resetNRelease _ => true
  | .transactionStart _ => true

end Sys2Proof
end

