-- ==== Sys2Proof/Certificates/Slice0/Obligations.lean ====
section
/-! DEFINITION. The statements for the provers: what each command does, and what every step keeps. -/

open Sys2Proof Sys2Proof.Machine

/-! ## The step -/

/-- The step takes the command at the front of the queue and executes it on the state with the queue's rest. The queue is the
model's own (notes/assumptions/2.md). -/
def Obligations.StepRunsFrontCommand : Prop :=
  ∀ (c : Instr) (s : State), step { s with pending := c :: s.pending } = exec c s

/-- Every command of the table completes in every state, none faults and none is refused, and none touches the queue of the
commands that wait behind it. In states that no run reaches the effect is the model's (notes/assumptions/28.md). -/
def Obligations.EveryCommandCompletes : Prop :=
  ∀ (c : Instr) (s : State), ∃ t, exec c s = .next t ∧ t.pending = s.pending

/-! ## Rules of the whole part -/

/-- R2, R10, R13, R175, R182, R183: the installation parameters in force change only at a reset, at the end of loading and at
an installation commit; the array of records is written by nothing but a commit, which clears a record's mark, and the end of
its programming, which sets it. No reset and no RESTART writes the array. That every reset keeps the array as it stands is
the model's reading (notes/assumptions/32.md). -/
def Obligations.RecordsInForceChangeOnlyByTheirCommands : Prop :=
  (∀ (c : Instr) (s t : State), exec c s = .next t → t.cfg.params ≠ s.cfg.params →
     (∃ m, c = .powerOnReset m) ∨ c = .resetN ∨ (∃ m, c = .resetNRelease m) ∨ c = .loadingEnd ∨
       ∃ p lock, c = .storeCommit p lock) ∧
  (∀ (c : Instr) (s t : State), exec c s = .next t → t.sto.array ≠ s.sto.array →
     (∃ p lock, c = .storeCommit p lock) ∨ ∃ ok, c = .programmingEnd ok)

/-- R159, R161: no command but a reset writes the bank that is live. -/
def Obligations.LiveBankIsNeverWritten : Prop :=
  ∀ (c : Instr) (s t : State), BanksOk s → exec c s = .next t →
    (∀ m, c ≠ .powerOnReset m) → c ≠ .resetN → (∀ m, c ≠ .resetNRelease m) →
    t.scp.meshOf s.scp.live = s.scp.meshOf s.scp.live

/-- R58, R62: EMERGENCY is left by nothing but a reset, RESTART and CLEAR_EMERGENCY, and CLEAR_EMERGENCY leaves it for
PROTECT. -/
def Obligations.EmergencyLeftOnlyByClearing : Prop :=
  ∀ (c : Instr) (s t : State), s.tsv.regime = .emergency → exec c s = .next t → t.tsv.regime ≠ .emergency →
    (∃ m, c = .powerOnReset m) ∨ c = .resetN ∨ (∃ m, c = .resetNRelease m) ∨ c = .restart [] ∨
      (c = .clearEmergency [] ∧ t.tsv.regime = .protect)

/-! ## Invariants that every step keeps -/

/-- R193, R195: every step keeps the event queue free of two entries of one kind, and its counts in 1 … 255. -/
def Obligations.StepKeepsQueueOk : Prop :=
  ∀ s t : State, QueueOk s.hli.queue → step s = .next t → QueueOk t.hli.queue

/-- R159, R163, R166: every step keeps exactly the bank that the pointer names LIVE, a build on the other bank, and a burst
on the live bank. -/
def Obligations.StepKeepsBanksOk : Prop :=
  ∀ s t : State, BanksOk s → step s = .next t → BanksOk t

/-- R117, R118, R124, R128: every step keeps the lens request queue, the history and the outcome list within their sizes. -/
def Obligations.StepKeepsLensListsOk : Prop :=
  ∀ s t : State, LensListsOk s.lnc → step s = .next t → LensListsOk t.lnc

/-- R63, R64, R69: every step keeps F ≤ C ≤ M outside EMERGENCY and C at 0 in it. -/
def Obligations.StepKeepsCeilingOk : Prop :=
  ∀ s t : State, CeilingOk s.tsv → step s = .next t → CeilingOk t.tsv

/-- R195: every step keeps the saturating counters within 0 … 255. -/
def Obligations.StepKeepsCountersOk : Prop :=
  ∀ s t : State, CountersOk s → step s = .next t → CountersOk t

/-- R38: every step keeps every fan at full duty, with no override and no fan test, while the regime is EMERGENCY. -/
def Obligations.StepKeepsEmergencyFansOk : Prop :=
  ∀ s t : State, EmergencyFansOk s → step s = .next t → EmergencyFansOk t

/-- R36: under NORMAL, outside Rest, every step keeps each fan whose duty the chain sets at or below its cap limit, as long
as no minimum running duty in force exceeds 1000 (R8 limits it to 500). -/
def Obligations.StepKeepsCapOk : Prop :=
  ∀ s t : State, CapOk s → step s = .next t → (∀ f, (t.fanParams f).minDuty ≤ 1000) → CapOk t

/-- R96, R99: every step keeps AX-V RELEASED, or ENERGISING from RELEASED, only under a record that marks it self-locking.
The premise on LOADING_END names the one moment at which the rules have both axes at rest (R2). -/
def Obligations.StepKeepsVHoldOk : Prop :=
  ∀ s t : State, VHoldOk s → (s.pending.head? = some .loadingEnd → (s.axis .v).st ≠ .energising) → step s = .next t →
    VHoldOk t

/-- R64, R70: every step keeps the notice ceiling the link holds equal to the one last handed over, and that equal to the one
the rules resolve from the computed ceiling, the regime and the resolved advertisement. -/
def Obligations.StepKeepsNoticeOk : Prop :=
  ∀ s t : State, NoticeOk s → step s = .next t → NoticeOk t

/-- R70: the notice ceiling that the link holds never exceeds the light-mode maximum; outside EMERGENCY it is never below the
floor, and it is a listed level or, where none lies at or below C, the floor; in EMERGENCY it is 0. -/
def Obligations.NoticeCeilingBounds : Prop :=
  ∀ (s : State) (n : Nat), NoticeOk s → CeilingOk s.tsv → s.lel.n = some n →
    n ≤ s.tsv.lightMax ∧ (s.tsv.regime = .emergency → n = 0) ∧ (s.tsv.regime ≠ .emergency → s.tsv.floor ≤ n) ∧
    ∀ a, s.lel.resolved = some a → s.tsv.regime ≠ .emergency →
      (a.levels ≠ [] → n ∈ a.levels ∧ (∀ l ∈ a.levels, l ≤ s.tsv.ceiling → l ≤ n) ∧
        (n ≤ s.tsv.ceiling ∨ (n = s.tsv.floor ∧ ∀ l ∈ a.levels, s.tsv.ceiling < l))) ∧
      (a.levels = [] → n = max s.tsv.ceiling a.minDrive)

/-- R93, R95, R99 to R103: every step keeps every referenced axis within its travel, every move's target within it, a segment
in progress running toward a goal it has not passed, IDLE, MOVING and SUSPENDED axes referenced, and an axis in motion at the
current of its condition. The premise on LOADING_END names the one moment at which the rules have no move in hand (R2, R115). -/
def Obligations.StepKeepsAxesOk : Prop :=
  ∀ s t : State, AxesOk s →
    (s.pending.head? = some .loadingEnd →
      ∀ a, (s.axis a).st ≠ .moving ∧ ∀ target, (s.axis a).order ≠ some (.move target)) →
    step s = .next t → AxesOk t

/-- R137: every step keeps the residuals that the geometry unit holds equal to the digital residuals of the lens controller:
the overrange residual of each axis, with the drift residual added on V. -/
def Obligations.StepKeepsResidualsHandedOver : Prop :=
  ∀ s t : State, s.geo.residual = { h := s.lnc.overrange.h, v := s.lnc.overrange.v + s.lnc.driftResidual } →
    step s = .next t → t.geo.residual = { h := t.lnc.overrange.h, v := t.lnc.overrange.v + t.lnc.driftResidual }

/-- The state after reset meets every invariant above. -/
def Obligations.ResetMeetsInvariants : Prop :=
  QueueOk State.reset.hli.queue ∧ BanksOk State.reset ∧ LensListsOk State.reset.lnc ∧ CeilingOk State.reset.tsv ∧
    CountersOk State.reset ∧ EmergencyFansOk State.reset ∧ CapOk State.reset ∧ VHoldOk State.reset ∧ NoticeOk State.reset ∧
    AxesOk State.reset ∧ State.reset.geo.residual = State.reset.lnc.digital

/-! ## Resets, loading, RESTART -/

/-- R2, R28, R29, R53, R77, R103, R114, R117, R139, R148, R159, R162, R174, R188: what a power-on reset leaves. The clock,
the levels of the input lines, the array and the waiting commands are what they were. The levels kept are the model's choice
(notes/assumptions/3.md and 32.md). That the emptied fan-test record has no outcome is the model's choice
(notes/assumptions/45.md). -/
def Obligations.PowerOnResetValues : Prop :=
  ∀ (m : Orientation) (s : State), ∃ t, exec (.powerOnReset m) s = .next t ∧
    t.inReset = false ∧ t.now = s.now ∧ t.installLock = s.installLock ∧ t.pending = s.pending ∧
    t.cfg = { params := .factory, orientation := m, strap := m, defaultsInUse := true, startHoming := true } ∧
    (∀ c, t.channel c = .reset (c != .s6 && c != .s7)) ∧
    (∀ f, (t.fanOf f).st = .off ∧ (t.fanOf f).duty = 0 ∧ (t.fanOf f).override = none ∧ (t.fanOf f).stallCount = 0 ∧
      (t.fanOf f).mismatch = 0 ∧ (t.fanOf f).recovering = false) ∧
    t.fan.profile = .standard ∧ t.fan.allowance = false ∧ t.fan.test = .empty ∧
    t.tsv.regime = .normal ∧ t.tsv.ceiling = 1000 ∧ t.tsv.requested = 1000 ∧ t.tsv.lightMax = 1000 ∧ t.tsv.floor = 0 ∧
    t.tsv.periodLen = 250 ∧ t.tsv.periodStart = s.now ∧ t.tsv.runOn = none ∧
    t.lel.st = .down ∧ t.lel.resolved = none ∧ t.lel.n = none ∧ t.lel.ack = none ∧ t.lel.frameErrors = 0 ∧
    t.lel.sending = some .solicit ∧ t.lel.solicitDue = some (s.now + 200) ∧ t.lightInhibit = true ∧
    (∀ a, (t.axis a).st = .unreferenced ∧ (t.axis a).pos = none ∧ (t.axis a).slipCount = 0 ∧
      (t.axis a).endstop = (s.axis a).endstop) ∧
    (t.axis .h).hold = .released ∧ (t.axis .v).hold = .reduced ∧ t.axc.forced = false ∧ t.axc.held = false ∧
    t.lnc.queue = [] ∧ t.lnc.executing = none ∧ t.lnc.history = [] ∧ t.lnc.outcomes = [] ∧ t.lnc.tcal = none ∧
    t.geo.keystone = .slope 0 0 ∧ t.geo.zoom = 1024 ∧ t.mse.build = none ∧ t.mse.counter = 0 ∧
    t.scp.live = .a ∧ t.scp.stateA = .live ∧ t.scp.stateB = .spare ∧ t.scp.meshA = .empty .a ∧ t.scp.meshB = .empty .b ∧
    t.scp.line = .idle ∧ t.scp.syncAbsent = false ∧ t.scp.syncDue = some (s.now + 100) ∧
    t.sto.st = .loading ∧ t.sto.array = s.sto.array ∧
    t.hli.response = { status := 0x16, kind := 0x00#8, payload := [] } ∧ t.hli.queue = [] ∧ t.hli.ready = false ∧
    t.hli.rest = false ∧ t.attn = false

/-- R162: the empty mesh is what both banks hold after power-on reset and after RESET_n: sequence number 0, its own bank,
orientation TABLE, no flag, no node OUTSIDE, 187 nodes of zeros, the duplicate header, and the checks 69 in bank A and 68 in
bank B, with which bytes 0 to 7 sum to 0 modulo 256. No build that completes writes the sequence number 0. -/
def Obligations.EmptyMeshAfterReset : Prop :=
  (∀ (m : Orientation) (c : Instr) (s : State), c = .powerOnReset m ∨ c = .resetN → ∃ t, exec c s = .next t ∧
    ∀ k : Bank, (t.scp.meshOf k).header.seq = 0 ∧ (t.scp.meshOf k).header.bank = k ∧
      (t.scp.meshOf k).header.orientation = .table ∧ (t.scp.meshOf k).header.flags = 0 ∧
      (t.scp.meshOf k).header.outsideCount = 0 ∧ (t.scp.meshOf k).header.nodeCount = 187 ∧
      (t.scp.meshOf k).header.check = (match k with | .a => 69 | .b => 68) ∧
      ((t.scp.meshOf k).header.bytes.map BitVec.toNat).sum % 256 = 0 ∧
      (t.scp.meshOf k).duplicate = (t.scp.meshOf k).header ∧
      (t.scp.meshOf k).nodes = List.replicate 187 { sx := 0, sy := 0, outside := false }) ∧
  (∀ (b : Build) (s : State), s.inReset = false → s.mse.build = some b → ∃ t, exec .buildComplete s = .next t ∧
    (t.scp.meshOf b.target).header.seq ≠ 0)

/-- R1, R2, R95, R173, R188, R196: RESET_n asserted leaves the state after a power-on reset with the strap as it was, with no
timer running and nothing being sent, and its release samples MOUNT and starts the part. A select line that was asserted is
cut off until it is deasserted. While RESET_n is low no other command does more than note an input line, and that nothing
acts on a part held in reset is the model's reading (notes/assumptions/4.md). The array and the waiting commands are what
they were, and the strap and the levels of the input lines are kept (notes/assumptions/32.md and 3.md). -/
def Obligations.ResetLineHoldsAndReleases : Prop :=
  (∀ s : State, ∃ t u, exec .resetN s = .next t ∧ exec (.powerOnReset s.cfg.strap) s = .next u ∧
      t = { u with inReset := true
                   lel := { u.lel with sending := none, solicitDue := none }
                   scp := { u.scp with line := t.scp.line, syncDue := none }
                   hli := { u.hli with line := t.hli.line } } ∧
      (∀ f, (t.fanOf f).spinupDue = none ∧ (t.fanOf f).kickDue = none) ∧ t.fan.tailDue = none ∧ t.fan.test.run = none ∧
      t.tsv.runOn = none ∧ t.lel.noticeDue = none ∧ t.lel.lossDue = none ∧ t.lel.deadline = none ∧ t.lel.waiting = [] ∧
      (∀ a, (t.axis a).holdDue = none ∧ (t.axis a).energiseDue = none ∧ (t.axis a).endstop = (s.axis a).endstop) ∧
      t.inReset = true ∧ t.readyLine = false ∧ t.attn = false ∧
      t.lightInhibit = true ∧ t.ilev .h = .off ∧ t.ilev .v = .reduced ∧ (∀ f, t.fpwm f = 0) ∧
      t.lel.sending = none ∧ t.lel.solicitDue = none ∧ t.scp.syncDue = none ∧ t.cfg.strap = s.cfg.strap ∧
      t.sto.array = s.sto.array ∧ t.pending = s.pending ∧ t.now = s.now ∧
      (t.hli.line = .idle ↔ s.hli.line = .idle) ∧ (s.hli.line ≠ .idle → t.hli.line = .cut) ∧
      (t.scp.line = .idle ↔ s.scp.line = .idle) ∧ (s.scp.line ≠ .idle → t.scp.line = .spent)) ∧
  (∀ (m : Orientation) (s : State), s.inReset = true → ∃ t u, exec (.resetNRelease m) s = .next t ∧
      exec (.powerOnReset m) s = .next u ∧
      t = { u with scp := { u.scp with line := s.scp.line }, hli := { u.hli with line := s.hli.line } }) ∧
  (∀ (m : Orientation) (s : State), s.inReset = false → exec (.resetNRelease m) s = .next s) ∧
  (∀ (c : Instr) (s : State), s.inReset = true →
    (∀ m, c ≠ .powerOnReset m) → c ≠ .resetN → (∀ m, c ≠ .resetNRelease m) → ∃ t, exec c s = .next t ∧
      t = { s with axc := { s.axc with axes := t.axc.axes }
                   scp := { s.scp with line := t.scp.line, sent := t.scp.sent }
                   hli := { s.hli with line := t.hli.line, sent := t.hli.sent } } ∧
      ∀ a, t.axis a = { s.axis a with endstop := (t.axis a).endstop })

/-- R1, R2, R9, R11, R103, R156, R177, R196: the end of loading forms the images, has CFG take the installation record or the
defaults, starts one build, toward the bank that is not live where none runs, and asserts READY. At any other time there is
no loading to end. The loaded installation record is taken whole where it is valid, in range and passes every check, and
replaced whole by the factory defaults where it is not. Each axis takes the parameters: one that stands beyond its new travel
limit loses its reference, and V takes its hold level from the self-locking flag; after a power-on reset or RESET_n, with
home-at-start on, each axis is then given a home order, kept under motion hold. The order in which the end of loading takes
the records is the model's (notes/assumptions/23.md). -/
def Obligations.LoadingEndTakesRecords : Prop :=
  (∀ s : State, s.inReset = false →
     (s.sto.st ≠ .loading → exec .loadingEnd s = .next s) ∧
     (s.sto.st = .loading → ∃ t, exec .loadingEnd s = .next t ∧
       t.sto.st = .idle ∧ t.sto.images = s.sto.array.load ∧ t.sto.array = s.sto.array ∧
       t.hli.ready = true ∧ t.hli.rest = s.hli.rest ∧ t.hli.response = s.hli.response ∧ t.hli.line = s.hli.line ∧
       t.cfg.params = (loadedInstall s.sto.array.load.install).1 ∧
       t.cfg.defaultsInUse = (loadedInstall s.sto.array.load.install).2 ∧
       t.cfg.orientation = resolveOrientation (loadedInstall s.sto.array.load.install).1.source s.cfg.strap ∧
       t.cfg.strap = s.cfg.strap ∧ t.cfg.startHoming = false ∧
       t.tsv.requested = (s.sto.array.load.working.getD .default).lightMode ∧
       t.fan.profile = (s.sto.array.load.working.getD .default).profile ∧
       t.lnc.overrangeMode = (s.sto.array.load.working.getD .default).overrangeMode ∧
       t.lnc.driftMode = (s.sto.array.load.working.getD .default).driftMode ∧
       t.geo.keystone = (s.sto.array.load.working.getD .default).keystone ∧
       t.geo.zoom = (s.sto.array.load.working.getD .default).zoom ∧
       (∃ b, t.mse.build = some b ∧ b.snapshot.comp = t.geo.comp ∧ b.snapshot.orientation = t.cfg.orientation ∧
         b.target = (s.mse.build.map (fun f => f.target)).getD s.scp.live.other) ∧
       t.mse.counter = s.mse.counter ∧ t.scp.live = s.scp.live ∧
       t.sen = s.sen ∧ t.now = s.now ∧ t.pending = s.pending ∧ t.inReset = false ∧ t.installLock = s.installLock ∧
       ∀ a : AxisId,
         let p := (loadedInstall s.sto.array.load.install).1
         let x := s.axis a
         let y := t.axis a
         let mayRelease := a = .h ∨ p.vSelfLocking = true
         let release := some (s.now + (p.axes.get a).releaseTime * 1000)
         let lost := match x.pos with
           | some pos => decide ((p.axes.get a).travelLimit < pos)
           | none => false
         let settled : Axis :=
           if lost then
             { x with st := .unreferenced, pos := none, hold := if mayRelease then .released else .reduced, holdDue := none
                      energiseDue := none, motion := none, homing := none }
           else if a = .h then x
           else if p.vSelfLocking = false then
             (if x.hold = .released then { x with hold := .reduced, holdDue := none } else x)
           else if s.cfg.params.vSelfLocking = true then x
           else if x.st = .unreferenced ∨ x.st = .fault then { x with hold := .released, holdDue := none }
           else if x.st = .idle ∧ x.hold = .reduced then { x with holdDue := release }
           else x
         let homes := s.cfg.startHoming = true ∧ p.homeAtStart = true
         (¬ homes → y = settled) ∧
         (homes → s.axc.held = true → y = { settled with order := some (.home .start), keptHome := true }) ∧
         (homes → s.axc.held = false →
           y.pos = none ∧ y.order = some (.home .start) ∧ y.keptHome = false ∧ y.holdDue = none ∧
           y.hold = (if s.axc.forced then .reduced else .full) ∧
           (settled.hold = .released → y.st = .energising ∧ y.energiseDue = some (s.now + 50)) ∧
           (settled.hold ≠ .released → y.st = .homing ∧ y.dirUp = x.endstop ∧
             y.homing = some (if x.endstop then .backOff 0 else .seek 0 (p.axes.get a).travelLimit))))) ∧
  (∀ image : Option Install,
     (∀ p, image = some p → p.inRange = true → p.check = none → loadedInstall image = (p, false)) ∧
     ((image = none ∨ ∃ p, image = some p ∧ (p.inRange = false ∨ p.check ≠ none)) →
       loadedInstall image = (Install.factory, true)))

/-- R115, R148, R173, R178, R188, R201, R202: RESTART, taken with every axis at rest and the lens queue empty, keeps the
axes' positions and hold levels, the live bank, both banks' contents, the sequence counter, the strap, the array and a
programming in flight, and until loading ends the parameters in force, the orientation, the defaults-in-use indication and
the record images; it starts everything else afresh. Otherwise it is refused with BUSY and the reasons, AXIS where an axis is
not at rest or keeps a HOME, LENS where a request is queued or executes, and changes nothing else. What it keeps until
loading ends, and the array, are the model's reading (notes/assumptions/32.md). -/
def Obligations.RestartKeepsLensAndPicture : Prop :=
  ∀ s : State, s.Serving →
    let rests (a : AxisId) : Prop :=
      ((s.axis a).st = .idle ∨ (s.axis a).st = .unreferenced ∨ (s.axis a).st = .fault) ∧ (s.axis a).keptHome = false
    (.axis ∈ s.taken.restartReasons ↔ ¬ (rests .h ∧ rests .v)) ∧
    (.lens ∈ s.taken.restartReasons ↔ ¬ (s.lnc.queue = [] ∧ s.lnc.executing = none)) ∧
    (∀ r ∈ s.taken.restartReasons, r = .axis ∨ r = .lens) ∧
    (s.taken.restartReasons = [] → ∃ t, exec (.restart []) s = .next t ∧
      t.hli.response = { status := 0x02, kind := 0x05#8, payload := [] } ∧ t.hli.queue = [] ∧ t.hli.ready = false ∧
      t.hli.rest = false ∧ t.attn = false ∧
      (∀ a, t.axis a = { s.axis a with slipCount := 0 }) ∧ t.axc.forced = false ∧ t.axc.held = false ∧
      t.scp.live = s.scp.live ∧ t.scp.meshA = s.scp.meshA ∧ t.scp.meshB = s.scp.meshB ∧ t.scp.line = s.scp.line ∧
      t.scp.swapPending = false ∧ t.scp.syncAbsent = false ∧ t.scp.syncDue = some (s.now + 100) ∧
      t.scp.stateOf t.scp.live.other = .spare ∧ t.mse.build = none ∧ t.mse.counter = s.mse.counter ∧
      t.sto.array = s.sto.array ∧ t.sto.images = s.sto.images ∧
      (∀ p, s.sto.st = .programming p → t.sto.st = .programming { p with thenLoading := true }) ∧
      ((∀ p, s.sto.st ≠ .programming p) → t.sto.st = .loading) ∧
      t.cfg = { s.cfg with startHoming := false } ∧ t.sen = .reset ∧ t.fan = .reset s.now ∧ t.tsv = .reset s.now ∧
      t.lel = .reset s.now ∧ t.lnc = .reset ∧ t.geo = .reset ∧ t.now = s.now ∧ t.pending = s.pending) ∧
    (s.taken.restartReasons ≠ [] → exec (.restart []) s =
      .next (s.taken.respond .restart .busy (reasonBytes s.taken.restartReasons)))

/-! ## The host link -/

/-- R188, R190, R196: while READY is deasserted a complete request frame of any kind is answered STARTING and acts on
nothing. While RESET_n is low, and at the end of a transaction that RESET_n cut off, no request is taken (the model's
reading, notes/assumptions/4.md). Once READY is asserted, a payload whose length no form of its kind has is refused with
INVALID and the reason FORM, and changes nothing but the noted level of INSTALL_LOCK. The lengths of the forms are the
model's widths (notes/assumptions/5.md). That the fit comes before any other check is the model's reading
(notes/assumptions/21.md). -/
def Obligations.RequestsRefusedBeforeTheirBlock : Prop :=
  (∀ (c : Instr) (kind : Byte) (p : List Byte) (s : State), c.request = some (kind, p) → p.length ≤ 60 →
     (s.inReset = false → s.hli.line ≠ .cut → s.hli.ready = false →
       exec c s = .next
         { s with hli := { s.hli with line := .idle, response := { status := 0x16, kind := kind, payload := [] } } }) ∧
     (s.inReset = true ∨ s.hli.line = .cut → exec c s = .next { s with hli := { s.hli with line := .idle } })) ∧
  (∀ (s : State) (p : List Byte) (lock : Bool), s.Serving → p.length ≤ 60 →
     ∀ c : Instr,
       ((p.length ≠ 0 ∧ c ∈ [.fetch p, .readEvents p, .readCounters p, .rest p, .restart p, .fanTest p, .clearEmergency p,
           .storeCommit p lock, .storeAbandon p]) ∨
        (p.length ≠ 1 ∧ c ∈ [.status p lock, .setAcoustic p, .fanRelease p, .clearFan p, .lensStop p, .lensBack p,
           .setOverrange p, .setDriftMode p, .storeOpen p lock]) ∨
        (p.length ≠ 2 ∧ c ∈ [.setLightMode p, .setZoom p, .lensRecall p, .meshPeek p]) ∨
        (p.length ≠ 3 ∧ c = .fanForce p) ∨ (p.length ≠ 4 ∧ c = .storeRead p) ∨ (p.length < 2 ∧ c = .storeWrite p) ∨
        (p.length ∉ [3, 5, 7] ∧ c ∈ [.lensMoveTo p, .lensMoveBy p]) ∨
        (p.length ≠ 2 + (p.getD 1 0#8).toNat ∧ c = .lensHome p) ∨
        ((p = [] ∨ (p.head? = some 0#8 ∧ p.length ≠ 5) ∨ (p.head? = some 1#8 ∧ p.length ≠ 17)) ∧ c = .setKeystone p)) →
       ∃ t kind, c.request = some (kind, p) ∧ exec c s = .next t ∧
         t = { s.taken with installLock := t.installLock
                            hli := { s.taken.hli with response := ⟨0x13, kind, [1#8, 2#8]⟩ } })

/-- R188 to R190, R193 to R195: FETCH is answered OK, a kind outside the table UNKNOWN_KIND, a faulty frame INVALID with the
reason FRAME whether READY is asserted or not, each after the end of Rest. A transaction sends the response frame and then
00h; a pure read changes nothing else. A transaction that RESET_n cut off sends 00h. That a faulty frame is refused before
READY too is the model's reading (notes/assumptions/26.md). READ_EVENTS removes the eight oldest entries and answers with
them, each with its kind, count, detail length and detail. READ_COUNTERS answers with the eleven saturating counters and sets
each to 0. ATTN is the queue's. -/
def Obligations.InterfaceRequestsAnswer : Prop :=
  ((∀ s : State, s.Serving → exec (.fetch []) s = .next
     { s.taken with hli := { s.taken.hli with response := { status := 0x00, kind := 0x00#8, payload := [] } } }) ∧
   (∀ (s : State) (k : Byte) (p : List Byte), s.Serving → p.length ≤ 60 → exec (.unknownKind k p) s = .next
     { s.taken with hli := { s.taken.hli with response := { status := 0x17, kind := k, payload := [] } } }) ∧
   (∀ (s : State) (k : Byte), s.inReset = false → s.hli.line ≠ .cut → exec (.hostFrameInvalid k) s = .next
     { s.taken with hli := { s.taken.hli with response := { status := 0x13, kind := k, payload := [1#8, 1#8] } } }) ∧
   (∀ (s : State) (received : List Byte), s.inReset = false →
     let frame := [BitVec.ofNat 8 s.hli.response.status, s.hli.response.kind, BitVec.ofNat 8 s.hli.response.payload.length]
       ++ s.hli.response.payload
     (∃ t, exec (.transactionStart received) s = .next t ∧
       t = { s with hli := { s.hli with line := .active received, sent := t.hli.sent } } ∧
       t.hli.sent.length = received.length ∧
       ∀ i, i < received.length → t.hli.sent[i]? = some ((frame[i]?).getD 0x00#8)) ∧
     (received.length < 2 → ∃ t, exec (.pureRead received) s = .next t ∧
       t = { s with hli := { s.hli with line := .idle, sent := t.hli.sent } } ∧
       t.hli.sent.length = received.length ∧
       ∀ i, i < received.length →
         t.hli.sent[i]? = some (if s.hli.line = .cut then 0x00#8 else (frame[i]?).getD 0x00#8)))) ∧
  ((∀ s : State, s.Serving → ∃ t, exec (.readEvents []) s = .next t ∧
     t = { s.taken with hli := { s.taken.hli with queue := s.hli.queue.drop 8, response := t.hli.response } } ∧
     t.hli.response = ⟨0x00, 0x02#8,
       BitVec.ofNat 8 (min 8 s.hli.queue.length) :: (s.hli.queue.take 8).flatMap (fun e =>
         [BitVec.ofNat 8 e.detail.kind, BitVec.ofNat 8 e.count, BitVec.ofNat 8 e.detail.bytes.length] ++ e.detail.bytes)⟩ ∧
     (t.attn = true ↔ 8 < s.hli.queue.length)) ∧
   (∀ s : State, s.Serving → ∃ t, exec (.readCounters []) s = .next t ∧
     t = { s.taken with fan := { s.taken.fan with fans := t.fan.fans }, axc := { s.axc with axes := t.axc.axes }
                        lel := { s.lel with frameErrors := 0 }
                        hli := { s.taken.hli with response := t.hli.response } } ∧
     t.hli.response = ⟨0x00, 0x03#8,
       ([(s.fanOf .f0).stallCount, (s.fanOf .f1).stallCount, (s.fanOf .f2).stallCount, (s.fanOf .f3).stallCount,
         (s.fanOf .f0).mismatch, (s.fanOf .f1).mismatch, (s.fanOf .f2).mismatch, (s.fanOf .f3).mismatch,
         (s.axis .h).slipCount, (s.axis .v).slipCount, s.lel.frameErrors].map (BitVec.ofNat 8))⟩ ∧
     (∀ f, t.fanOf f = { s.taken.fanOf f with stallCount := 0, mismatch := 0 }) ∧
     ∀ a, t.axis a = { s.axis a with slipCount := 0 }))

/-- R13, R27, R52, R74, R92, R116, R138, R158, R172, R187, R192: STATUS answers OK with the report of the section asked for,
and INVALID for a section outside the table. Each section reports the items its rule lists, as they stand, in the order of
the list; the derate excess is reported in PROTECT alone. The widths and codes, and what marks an absent item, are the
model's (notes/assumptions/5.md), as is an excess of which no PROTECT period end has told (notes/assumptions/36.md). -/
def Obligations.StatusReportsSection : Prop :=
  (∀ (s : State) (n : Byte) (lock : Bool), s.Serving →
     (n.toNat ≤ 10 → ∃ bytes, { s.taken with installLock := lock }.statusSection n.toNat = some bytes ∧
       exec (.status [n] lock) s = .next
         { s.taken with installLock := lock
                        hli := { s.taken.hli with response := { status := 0x00, kind := 0x01#8, payload := bytes } } }) ∧
     (10 < n.toNat → exec (.status [n] lock) s = .next
       { s.taken with installLock := lock
                      hli := { s.taken.hli with response := { status := 0x13, kind := 0x01#8, payload := [] } } }) ∧
     { s.taken with installLock := lock }.statusSection 0 = some
       ([s.tsv.regime.code, 0, 1, s.cfg.orientation.code, if s.cfg.defaultsInUse then 1 else 0, s.hli.queue.length,
         s.sto.st.code].map (BitVec.ofNat 8))) ∧
  (∀ u : State,
    let mark (b : Bool) : List Byte := u8 (if b then 1 else 0)
    let first (b : Bool) : List Byte := u8 (if b then 0 else 1)
    let installed (a : AxisId) : List Byte :=
      optBytes i16 (u.screen a) ++ u16 (u.axisParams a).travelLimit ++ u8 (u.axis a).st.code
    u.statusSection 1 = some (u8 u.cfg.orientation.code ++ u8 u.cfg.strap.code ++ u8 u.cfg.params.source.code ++
      mark u.cfg.defaultsInUse ++ installed .h ++ installed .v) ∧
    u.statusSection 2 = some ([Chan.s0, .s1, .s2, .s3, .s4, .s5, .s6, .s7].flatMap (fun c =>
      let x := u.channel c
      if x.present then first true ++ optBytes i16 x.filtered ++ first (!x.fault) ++ u8 x.window.length else first false)) ∧
    u.statusSection 3 = some ([FanId.f0, .f1, .f2, .f3].flatMap (fun f =>
        let x := u.fanOf f
        u8 x.st.code ++ u16 x.duty ++ u16 x.speed ++ optBytes u16 x.override ++ u8 x.attempts) ++
      u8 u.fan.profile.code ++ mark u.fan.allowance ++
      optBytes (fun r => u8 r.fan.index ++ u8 (r.step + 1)) u.fan.test.run ++
      [FanId.f0, .f1, .f2, .f3].flatMap (fun f =>
        let r := u.fan.test.rows.get f
        u8 r.result.code ++ optBytes u16 r.speed1 ++ optBytes u16 r.speed2 ++ optBytes u16 r.speed3) ++
      optBytes (fun o => u8 o.code) u.fan.test.outcome ++ optBytes (fun c => u8 c.code) u.fan.test.cause) ∧
    (let cause (c : CauseAt) : List Byte := u8 c.cause.code ++ optBytes u8 c.index
     u.statusSection 4 = some (u8 u.tsv.regime.code ++ optBytes cause u.tsv.entryCause ++ listBytes cause u.tsv.causes ++
      u16 u.tsv.periodLen ++ u16 u.tsv.ceiling ++ u16 u.tsv.requested ++ u16 u.tsv.lightMax ++ u16 u.tsv.floor ++
      optBytes u16 u.lel.n ++ optBytes i16 (if u.tsv.regime = .protect then u.tsv.excess else none) ++ u8 u.tsv.dwell ++
      first u.tsv.recirc ++ u8 u.tsv.entryCount ++ u8 u.tsv.clearCount ++ first u.tsv.runOn.isSome ++
      optBytes (fun began => u16 ((u.now - began) / 1000)) u.tsv.runOn ++ u8 u.tsv.lastRunOnEnd.code)) ∧
    u.statusSection 5 = some (u8 u.lel.st.code ++
      optBytes (fun a => u16 a.minDrive ++ u16 a.minRunOn ++ u8 a.thermals ++ listBytes u16 a.levels) u.lel.resolved ++
      u16 u.lel.drive ++ optBytes u16 u.lel.n ++ mark u.lel.toggle ++ optBytes u16 u.lel.ack ++
      optBytes (fun e => [e]) u.lel.lastEcho ++ mark u.lel.reductionPending ++
      optBytes (fun due => u16 (due - u.now)) u.lel.deadline ++ u8 u.lel.overCount ++ first u.lightInhibit ++
      listBytes u8 ((if u.lel.st = .up then [] else [0]) ++ (if 0 < u.lel.ack.getD 0 then [] else [1]) ++
        (if u.tsv.regime = .emergency then [2] else []))) ∧
    (let axis (a : AxisId) : List Byte :=
       let x := u.axis a
       u8 x.st.code ++ u8 x.hold.code ++ optBytes i16 (u.screen a) ++ u16 (u.axisParams a).travelLimit ++
         optBytes i16 (match x.order with
           | some (.move z) => some (u.convert a z)
           | _ => none) ++
         first x.keptHome ++ optBytes (fun p => match p with
           | .backOff _ => u8 0
           | .seek _ _ => u8 1) x.homing
     u.statusSection 6 = some (axis .h ++ axis .v ++ mark u.axc.forced ++ mark u.axc.held)) ∧
    (let part (a : AxisId) (p : Part) : List Byte := match p with
       | .move z clamped rem => i16 z ++ mark clamped ++ i16 rem
       | .home => i16 (u.convert a 0) ++ mark false ++ i16 0
     let request (r : Request) : List Byte :=
       [r.tag] ++ u8 r.origin.code ++ optBytes (part .h) r.parts.h ++ optBytes (part .v) r.parts.v
     let answer (o : Option AxisAnswer) : List Byte := optBytes (fun o => u8 o.outcome.code) o
     let outcome (o : Option LensOutcome) : List Byte := optBytes (fun o => u8 o.code) o
     let l := u.lnc
     u.statusSection 7 = some (listBytes request l.queue ++
      optBytes (fun x => request x.request ++ answer x.answers.h ++ answer x.answers.v) l.executing ++
      optBytes i16 (u.planned .h) ++ optBytes i16 (u.planned .v) ++ optBytes i16 (u.base .h) ++ optBytes i16 (u.base .v) ++
      listBytes (fun e => optBytes i16 e.h ++ optBytes i16 e.v) l.history ++
      listBytes (fun o => [o.tag] ++ u8 o.origin.code ++ u8 o.outcome.code ++ outcome o.axes.h ++ outcome o.axes.v) l.outcomes ++
      u8 l.overrangeMode.code ++ i16 l.overrange.h ++ i16 l.overrange.v ++ u8 l.driftMode.code ++ optBytes i16 l.tcal ++
      i16 l.desired ++ i16 l.applied ++ i16 l.driftResidual ++ optBytes (fun c => i16 c.aim) l.correction ++
      i16 l.overrange.h ++ i16 (l.overrange.v + l.driftResidual))) ∧
    (let g := u.geo
     let point (p : Point) : List Byte := i32 p.x ++ i32 p.y
     u.statusSection 8 = some (g.keystone.bytes ++ u16 g.zoom ++ i16 g.residual.h ++ i16 g.residual.v ++
      u16 (u.axisParams .h).pixelsPerStep ++ u16 (u.axisParams .v).pixelsPerStep ++
      point g.comp.quad.tl ++ point g.comp.quad.tr ++ point g.comp.quad.br ++ point g.comp.quad.bl ++
      i16 g.comp.requested.x ++ i16 g.comp.requested.y ++ point g.comp.applied ++ first g.comp.clipped ++
      first g.comp.identity ++ optBytes (fun b => u8 b.target.code) u.mse.build ++ u16 u.mse.counter)) ∧
    (let other := u.scp.live.other
     u.statusSection 9 = some (u8 u.scp.live.code ++ u16 (u.scp.meshOf u.scp.live).header.seq ++
      u8 (u.scp.stateOf other).code ++
      optBytes u16 (if u.scp.stateOf other = .ready then some (u.scp.meshOf other).header.seq else none) ++
      (match u.scp.line with
       | .burst k _ _ => u8 1 ++ u8 k.code
       | _ => u8 0) ++
      mark u.scp.swapPending ++ first (!u.scp.syncAbsent) ++
      optBytes u16 (if u.scp.syncAbsent then none else u.scp.syncDue.map (fun due => 100 - (due - u.now))))) ∧
    u.statusSection 10 = some (u8 u.sto.st.code ++
      (match u.sto.st with
       | .staged g => u8 g.record.number ++ u8 g.fields.length
       | .programming p => u8 p.fields.id.number ++ u16 (p.due - u.now)
       | _ => []) ++
      first u.sto.images.install.isSome ++ first u.sto.images.working.isSome ++
      u.sto.images.presets.toList.flatMap (fun p => first p.isSome) ++
      u.sto.images.presets.toList.flatMap (fun p => match p with
        | some p => listBytes (fun c => [c]) p.name ++ mark p.hPos.isSome ++ mark p.vPos.isSome ++ mark p.tcal.isSome ++
            mark p.geometry.isSome
        | none => []) ++
      mark u.installLock))

/-- R197 to R199, R30, R40, R98: REST, taken with every condition of the table holding, stops the fans and lowers each axis
to its Rest level; otherwise it is refused with CONDITIONS and the reason of every condition that fails, once and no other:
REGIME, RUN_ON, AXIS, LENS, DRIFT, MESH, STORE, FAN_TEST; and changes nothing. The state a request frame acts on differs
from the one before it, outside Rest, in the line alone. A Rest in force has ended: each fan, OFF or FAILED at duty 0, is
commanded the duty its source gives, the chain giving the minimum running duty, and a fan not FAILED starts in SPINUP where
that is above 0. Nothing else changes: no hold level, no channel, no event. -/
def Obligations.RestEntersAndEnds : Prop :=
  (∀ s : State, s.Serving →
     (s.taken.restReasons = [] ↔
       s.tsv.regime = .normal ∧ s.tsv.runOn = none ∧
       (∀ a, (s.axis a).st ≠ .homing ∧ (s.axis a).st ≠ .energising ∧ (s.axis a).st ≠ .moving ∧ (s.axis a).st ≠ .suspended ∧
         (s.axis a).keptHome = false) ∧
       s.lnc.queue = [] ∧ s.lnc.executing = none ∧ s.lnc.correction = none ∧ s.mse.build = none ∧
       (∀ p, s.sto.st ≠ .programming p) ∧ s.fan.test.run = none) ∧
     (Reason.regime ∈ s.taken.restReasons ↔ s.tsv.regime ≠ .normal) ∧
     (Reason.runOn ∈ s.taken.restReasons ↔ s.tsv.runOn ≠ none) ∧
     (Reason.axis ∈ s.taken.restReasons ↔
       ∃ a, (s.axis a).st = .homing ∨ (s.axis a).st = .energising ∨ (s.axis a).st = .moving ∨ (s.axis a).st = .suspended ∨
         (s.axis a).keptHome = true) ∧
     (Reason.lens ∈ s.taken.restReasons ↔ s.lnc.queue ≠ [] ∨ s.lnc.executing ≠ none) ∧
     (Reason.drift ∈ s.taken.restReasons ↔ s.lnc.correction ≠ none) ∧
     (Reason.mesh ∈ s.taken.restReasons ↔ s.mse.build ≠ none) ∧
     (Reason.store ∈ s.taken.restReasons ↔ ∃ p, s.sto.st = .programming p) ∧
     (Reason.fanTest ∈ s.taken.restReasons ↔ s.fan.test.run ≠ none) ∧
     (∀ r ∈ s.taken.restReasons, r ∈ [Reason.regime, .runOn, .axis, .lens, .drift, .mesh, .store, .fanTest]) ∧
     s.taken.restReasons.Nodup ∧
     (s.taken.restReasons = [] → ∃ t, exec (.rest []) s = .next t ∧
       t = { s.taken with fan := { s.taken.fan with fans := t.fan.fans }, axc := { s.axc with axes := t.axc.axes }
                          hli := { s.taken.hli with rest := true
                                                    response := { status := 0x00, kind := 0x04#8, payload := [] } } } ∧
       (∀ f, (t.fanOf f).duty = 0 ∧ (t.fanOf f).st = (if (s.taken.fanOf f).st = .failed then .failed else .off) ∧
         (t.fanOf f).override = (s.taken.fanOf f).override) ∧
       t.axis .h = { s.axis .h with hold := .released, holdDue := none } ∧
       t.axis .v = { s.axis .v with hold := if s.cfg.params.vSelfLocking then .released else .reduced, holdDue := none }) ∧
     (s.taken.restReasons ≠ [] → exec (.rest []) s = .next
       { s.taken with hli := { s.taken.hli with response := ⟨0x15, 0x04#8,
                                 BitVec.ofNat 8 s.taken.restReasons.length ::
                                   s.taken.restReasons.map (fun r => BitVec.ofNat 8 r.code)⟩ } })) ∧
  (∀ s : State,
     (s.hli.rest = false → s.taken = { s with hli := { s.hli with line := .idle } }) ∧
     (s.hli.rest = true → (∀ f, (s.fanOf f).duty = 0 ∧ ((s.fanOf f).st = .off ∨ (s.fanOf f).st = .failed)) →
       s.taken = { s with fan := { s.fan with fans := s.taken.fan.fans }
                          hli := { s.hli with line := .idle, rest := false } } ∧
       ∀ f,
         (s.taken.fanOf f).duty =
           (if s.tsv.regime = .emergency then 1000
            else if s.tsv.regime = .protect then
              (if (s.fanOf f).st = .failed then 1000 else (s.fanParams f).minDuty)
            else (s.fanOf f).override.getD (s.fanParams f).minDuty) ∧
         ((s.fanOf f).st = .failed → (s.taken.fanOf f).st = .failed) ∧
         ((s.fanOf f).st = .off → 0 < (s.taken.fanOf f).duty →
           (s.taken.fanOf f).st = .spinup ∧ (s.taken.fanOf f).spinupDue = some (s.now + 2000) ∧
           (s.taken.fanOf f).recovering = false) ∧
         ((s.fanOf f).st = .off → (s.taken.fanOf f).duty = 0 → (s.taken.fanOf f).st = .off) ∧
         (s.taken.fanOf f).override = (s.fanOf f).override ∧ (s.taken.fanOf f).stallCount = (s.fanOf f).stallCount))

/-! ## Light mode, the regime and the temperature channels -/

/-- R63, R70, R83, R87: SET_LIGHT_MODE takes the level limited to 300 … 1000, forms M and lowers C to M outside EMERGENCY.
Where M changes, N is resolved and handed to the link where it has changed: the link takes it with its toggle flipped and,
while it is UP, sends it at once or once the line is free. The reduction deadline is stopped where no reduction is pending
after the change. Where one is, it starts at 300 ms where N fell or no deadline ran, from the NOTICE sent at once or, being
marked as waiting, from the one that waits; where N rose and one runs, it is kept. It answers with the requested value as
taken and M, OK_CLAMPED where the level was limited. That N is resolved only where M changes is the model's reading
(notes/assumptions/33.md). -/
def Obligations.SetLightModeTakesLevel : Prop :=
  ∀ (s : State) (x y : Byte), s.Serving →
    let level := x.toNat * 256 + y.toNat
    let taken := max 300 (min 1000 level)
    let m := max taken s.tsv.floor
    ∃ t, exec (.setLightMode [x, y]) s = .next t ∧
      t = { s.taken.answer (if taken = level then 0x00 else 0x01) 0x10#8
              ([taken / 256, taken, m / 256, m].map (BitVec.ofNat 8)) with
            tsv := { s.tsv with requested := taken, lightMax := m, ceiling := t.tsv.ceiling, handedN := t.tsv.handedN }
            lel := { s.lel with n := t.lel.n, toggle := t.lel.toggle, noticeDue := t.lel.noticeDue, sending := t.lel.sending,
                                waiting := t.lel.waiting, deadline := t.lel.deadline, deadlineWaits := t.lel.deadlineWaits } } ∧
      (CeilingOk s.tsv → t.tsv.ceiling = (if s.tsv.regime = .emergency then 0 else min m s.tsv.ceiling)) ∧
      t.tsv.handedN = (if m = s.tsv.lightMax then s.tsv.handedN else some t.noticeValue) ∧
      (s.tsv.handedN = t.tsv.handedN ∨ s.lel.n = t.tsv.handedN → t.lel = s.lel) ∧
      (s.tsv.handedN ≠ t.tsv.handedN → s.lel.n ≠ t.tsv.handedN →
        let pending := ∃ a, s.lel.ack = some a ∧ t.noticeValue < a
        let fell := ∃ n, s.lel.n = some n ∧ t.noticeValue < n
        t.lel.n = t.tsv.handedN ∧ t.lel.toggle = !s.lel.toggle ∧
        (s.lel.st ≠ .up → t.lel.noticeDue = s.lel.noticeDue ∧ t.lel.sending = s.lel.sending ∧ t.lel.waiting = s.lel.waiting ∧
          t.lel.deadline = s.lel.deadline ∧ t.lel.deadlineWaits = s.lel.deadlineWaits) ∧
        (s.lel.st = .up → ¬ pending → t.lel.deadline = none ∧ t.lel.deadlineWaits = false) ∧
        (s.lel.st = .up → pending → fell ∨ s.lel.deadline = none →
          t.lel.deadline = some (s.now + 300) ∧
          (s.lel.sending = none → WaitingFrame.notice ∉ s.lel.waiting → t.lel.deadlineWaits = false) ∧
          (s.lel.sending ≠ none → t.lel.deadlineWaits = true)) ∧
        (s.lel.st = .up → pending → ¬ fell → s.lel.deadline ≠ none → s.lel.sending ≠ none ∨ s.lel.deadlineWaits = false →
          t.lel.deadline = s.lel.deadline ∧ t.lel.deadlineWaits = s.lel.deadlineWaits) ∧
        (s.lel.st = .up → t.lel.noticeDue = some (s.now + 50) ∧
          (s.lel.sending = none → t.lel.sending = some (.notice t.noticeValue (!s.lel.toggle) s.tsv.regime) ∧
            t.lel.waiting = s.lel.waiting) ∧
          (s.lel.sending ≠ none → t.lel.sending = s.lel.sending ∧ WaitingFrame.notice ∈ t.lel.waiting)))

/-- R60 to R62, R87: CLEAR_EMERGENCY is refused outside EMERGENCY, and in EMERGENCY while a present channel stands at its
warning threshold, F2 is FAILED or the link is not UP, naming every reason and the lowest such channel (its byte after the
reasons is the model's, notes/assumptions/5.md). Accepted, it makes the regime PROTECT with C at the floor and the dwell
count 0, resolves and hands over N, and raises REGIME_CHANGED with the cause CLEARED_BY_HOST. Where a reduction is pending
after it, the deadline starts at 300 ms where none ran or N fell, and is kept else; where a change of N leaves none pending,
it is stopped. That the value handed on at the last period end is compared with the threshold in force, also right after an
installation commit that raised it, is the model's choice (notes/assumptions/39.md): for a channel unknown or in FAULT R62
also says that it blocks. -/
def Obligations.ClearEmergencyChecksAndClears : Prop :=
  ∀ s : State, s.Serving →
    let warm := [Chan.s0, .s1, .s2, .s3, .s4, .s5, .s6, .s7].find? (fun c =>
      match s.working c with
      | some v => decide ((s.chanParams c).warning ≤ v)
      | none => false)
    let reasons : List Byte := (if warm = none then [] else [0x0B#8]) ++
      (if (s.fanOf .f2).st = .failed then [0x0C#8] else []) ++ (if s.lel.st = .up then [] else [0x0D#8])
    (s.tsv.regime ≠ .emergency → exec (.clearEmergency []) s = .next (s.taken.answer 0x15 0x16#8 [1#8, 0x0A#8])) ∧
    (s.tsv.regime = .emergency → reasons ≠ [] → exec (.clearEmergency []) s = .next
      (s.taken.answer 0x15 0x16#8
        ([BitVec.ofNat 8 reasons.length] ++ reasons ++ (warm.map (fun c => BitVec.ofNat 8 c.index)).toList))) ∧
    (s.tsv.regime = .emergency → reasons = [] → ∃ t, exec (.clearEmergency []) s = .next t ∧
      t = { s.taken.answer 0x00 0x16#8 [] with
            tsv := { s.tsv with regime := .protect, entryCause := some { cause := .clearedByHost, index := none }, dwell := 0,
                                ceiling := s.tsv.floor, handedN := t.tsv.handedN }
            fan := { s.taken.fan with fans := t.fan.fans }
            lel := { s.lel with n := t.lel.n, toggle := t.lel.toggle, noticeDue := t.lel.noticeDue, sending := t.lel.sending,
                                waiting := t.lel.waiting, deadline := t.lel.deadline, deadlineWaits := t.lel.deadlineWaits }
            hli := { (s.taken.answer 0x00 0x16#8 []).hli with queue := t.hli.queue } } ∧
      t.tsv.handedN = some (noticeFor .protect s.lel.resolved s.tsv.floor s.tsv.floor) ∧
      (s.tsv.handedN ≠ t.tsv.handedN → t.lel.n = t.tsv.handedN) ∧
      (let pending := t.lel.reductionPending = true
       let changed := s.tsv.handedN ≠ t.tsv.handedN ∧ s.lel.n ≠ t.tsv.handedN
       let fell := ∃ n, s.lel.n = some n ∧ t.noticeValue < n
       (pending → s.lel.deadline = none ∨ (changed ∧ fell) → t.lel.deadline = some (s.now + 300)) ∧
       (pending → s.lel.deadline ≠ none → ¬ (changed ∧ fell) → s.lel.sending ≠ none ∨ s.lel.deadlineWaits = false →
         t.lel.deadline = s.lel.deadline) ∧
       (¬ pending → changed → t.lel.deadline = none ∧ t.lel.deadlineWaits = false) ∧
       (¬ pending → ¬ changed → t.lel.deadline = s.lel.deadline)) ∧
      RegimeChanged s .protect { cause := .clearedByHost, index := none } t ∧
      (∀ f, (t.fanOf f).override = none ∧ (t.fanOf f).st = (s.taken.fanOf f).st ∧
        (t.fanOf f).duty = (if (s.taken.fanOf f).st = .failed then 1000 else (s.taken.fanOf f).duty)) ∧
      ((∀ f, (s.fanOf f).override = none) →
        t.hli.queue = insertEvent (.regimeChanged .emergency .protect { cause := .clearedByHost, index := none }) s.hli.queue))

/-- R20: the filtered value is the mean of the window rounded to the nearest tenth, a half toward +∞: formed again where a
valid sample enters the window of a channel in NORMAL or recovering to it, and held where the window is unchanged. The rows
of the table agree. -/
def Obligations.FilteredValueIsMeanOfWindow : Prop :=
  (∀ (warning v : Temp) (c : Channel), c.fault = false ∨ 3 ≤ c.validRun →
    let d := (c.take warning (.valid v)).1
    let n : Int := d.window.length
    d.fault = false ∧ d.window = (if 4 ≤ c.window.length then c.window.drop 1 else c.window) ++ [v] ∧
    ∃ m, d.filtered = some m ∧ 2 * d.window.sum - n < 2 * n * m ∧ 2 * n * m ≤ 2 * d.window.sum + n) ∧
  (∀ (warning : Temp) (x : Sample) (c : Channel), c.fault = false → (∀ v, x ≠ .valid v) →
    (c.take warning x).1.fault = false → (c.take warning x).1.window = c.window ∧ (c.take warning x).1.filtered = c.filtered) ∧
  windowMean [452, 455, 457, 460] = 456 ∧ windowMean [452, 455, 457] = 455 ∧ windowMean [451, 452] = 452 ∧
  windowMean [-5, -2] = -3 ∧ windowMean [-5, -3, -2, -1] = -3

/-- R16 to R19, R22 to R26, R41, R54, R55: a period end closes the period at its timer's instant. Outside Rest, and in Rest
2 s or more after the last one, it is a sample point: each present channel takes its sample and hands on its value, and each
change of a condition raises SENSOR_FAULT, in ascending channel order, with the channel, the new condition and its cause.
Each fan's speed is its pulses over the period's length. Fast watch sets the length of the period that begins. The sample of
a channel is a conversion of its thermistor, valid from −30.0 to 140.0 °C; for S6 and S7 it is the value held from the
telemetry while the link is UP, and invalid while it is not. A channel in FAULT with no sample, and the first sample in
Rest, are the model's reading (notes/assumptions/12.md), and that a Rest ended and entered again before the period end keeps
its 2 s is the model's choice (notes/assumptions/46.md). The instant of an expiry is notes/assumptions/1.md's. -/
def Obligations.ControlPeriodEndSamples : Prop :=
  (∀ (th : Thermistors) (order : PeriodOrder) (s : State), s.inReset = false →
     let now := max s.now (s.tsv.periodStart + s.tsv.periodLen)
     let due := s.hli.rest = false ∨ ∀ t0, s.sen.lastSample = some t0 → t0 + 2000 ≤ now
     ∃ t, exec (.controlPeriodEnd th order) s = .next t ∧
       t = { s with now := now, sen := t.sen, fan := t.fan, tsv := t.tsv, lel := t.lel, axc := t.axc, lnc := t.lnc, geo := t.geo
                    mse := { s.mse with build := t.mse.build }
                    scp := { s.scp with stateA := t.scp.stateA, stateB := t.scp.stateB }
                    hli := { s.hli with queue := t.hli.queue, rest := t.hli.rest } } ∧
       t.tsv.periodStart = now ∧ (¬ due → t.sen = s.sen) ∧ (due → t.sen.lastSample = some now) ∧
       (due → ∀ c,
         let x := s.channel c
         let y := t.channel c
         let warning := (s.chanParams c).warning
         (x.present = false → y = x) ∧
         (x.present = true →
           y.present = true ∧ y.held = none ∧
           y.handed = some (y.filtered.getD warning,
             if y.fault then .fault else if y.window = [] then .unknown else .known) ∧
           (∀ v, s.sampleFor th c = .valid v →
             y.window = (if 4 ≤ x.window.length then x.window.drop 1 else x.window) ++ [v] ∧
             (x.fault = false ∨ 3 ≤ x.validRun → y.fault = false ∧ y.invalidRun = 0 ∧ y.filtered = some (windowMean y.window)) ∧
             (x.fault = true → 3 ≤ x.validRun → y.validRun = 0) ∧
             (x.fault = true → x.validRun < 3 →
               y.fault = true ∧ y.validRun = x.validRun + 1 ∧ y.filtered = some warning)) ∧
           (∀ k, s.sampleFor th c = .invalid k →
             (x.fault = false → x.invalidRun = 0 →
               y.fault = false ∧ y.invalidRun = 1 ∧ y.window = x.window ∧ y.filtered = x.filtered) ∧
             (x.fault = true ∨ 1 ≤ x.invalidRun →
               y.fault = true ∧ y.window = [] ∧ y.validRun = 0 ∧ y.filtered = some warning)) ∧
           (s.sampleFor th c = .missing →
             y.window = x.window ∧ y.fault = x.fault ∧ y.invalidRun = x.invalidRun ∧ y.validRun = x.validRun ∧
             y.filtered = (if x.fault then some warning else x.filtered)))) ∧
       (let faults (q : List QueueEntry) : List QueueEntry := q.filter (fun e => e.detail.kind = 0x02)
        let changed := [Chan.s0, .s1, .s2, .s3, .s4, .s5, .s6, .s7].filter (fun c => (t.channel c).fault != (s.channel c).fault)
        (changed = [] → faults t.hli.queue = faults s.hli.queue) ∧
        (QueueOk s.hli.queue → ∀ c, changed.getLast? = some c → ∃ cause,
          faults t.hli.queue =
            [{ count := min 255 (((faults s.hli.queue).map (fun e => e.count)).sum + changed.length)
               detail := .sensorFault c (t.channel c).fault cause }] ∧
          ((t.channel c).fault = false → cause = .recovered) ∧
          ((t.channel c).fault = true → s.sampleFor th c = .invalid cause))) ∧
       (∀ f, (t.fanOf f).speed = min 65535 ((s.fanOf f).pulses * 30000 / s.tsv.periodLen) ∧ (t.fanOf f).pulses = 0) ∧
       (t.tsv.periodLen = 125 ∨ t.tsv.periodLen = 250) ∧
       (s.tsv.periodLen ≠ 125 → (t.tsv.periodLen = 125 ↔ ∃ c v, t.working c = some v ∧ (s.chanParams c).warning - 50 ≤ v)) ∧
       (s.tsv.periodLen = 125 → (t.tsv.periodLen = 250 ↔ ∀ c v, t.working c = some v → v < (s.chanParams c).warning - 80))) ∧
  (∀ (th : Thermistors) (s : State),
     let ranged (v : Temp) : Sample := if -300 ≤ v ∧ v ≤ 1400 then .valid v else .invalid .outOfRange
     s.sampleFor th .s0 = ranged th.th0 ∧ s.sampleFor th .s1 = ranged th.th1 ∧ s.sampleFor th .s2 = ranged th.th2 ∧
     s.sampleFor th .s3 = ranged th.th3 ∧ s.sampleFor th .s4 = ranged th.th4 ∧ s.sampleFor th .s5 = ranged th.th5 ∧
     ∀ c, c = .s6 ∨ c = .s7 →
       (s.lel.st ≠ .up → s.sampleFor th c = .invalid .linkNotUp) ∧
       (s.lel.st = .up →
         s.sampleFor th c = (match (s.channel c).held with
           | some (some v) => ranged v
           | some none => .invalid .markedInvalid
           | none => .missing)))

/-- R47, R56 to R58, R60, R61, R65 to R69, R71, R73, R74, R200: the supervisor's work at a period end, on the values handed
on at it. A critical temperature or a FAILED F2 enters EMERGENCY. In NORMAL any cause of the table enters PROTECT; in
PROTECT the exit conditions together return to NORMAL. Each change names the first cause of R61 that holds, with its lowest
channel or fan: CRITICAL, then FAN_FAILED of F2, then THERMAL_RUNAWAY for EMERGENCY; SENSOR_FAULT, WARNING, FAN_FAILED of
F0, F1 or F3, then RECIRCULATION for PROTECT; RECIRCULATION where it was present at the previous period end, else COOLED,
for the return. The cause is the entry cause and stands in REGIME_CHANGED, and an entry into PROTECT or EMERGENCY removes
the host overrides with OVERRIDE_CLEARED. Where the regime stands, the entry cause stands and no REGIME_CHANGED is raised.
TSV then holds for STATUS the causes that held here, in every regime; that each is listed once, with its lowest channel or
fan, and their order are the model's choice (notes/assumptions/11.md). C rises by 10 toward M in NORMAL, and in PROTECT
falls by 20 where the derate excess is above 0, rises by 10 where it is below −2.0 °C and holds else, within F … M; 40
period ends on end at the floor with an excess above 0 are THERMAL_RUNAWAY. Under CEILING the recirculation counts run;
under TABLE they hold. Run-on ends by temperature once its minimum has passed and S2, S6 and S7 stand below the release
temperature. A Rest in force ends at a sample point at which a channel stands at its warning threshold, and at a change of
regime, with WOKE of the event taken first. The fixed part of the order within a period end is the model's
(notes/assumptions/10.md). The instant of an expiry is notes/assumptions/1.md's. -/
def Obligations.ControlPeriodEndSupervises : Prop :=
  ∀ (th : Thermistors) (order : PeriodOrder) (s : State), s.inReset = false →
    ∃ t, exec (.controlPeriodEnd th order) s = .next t ∧
      let old := s.tsv
      let new := t.tsv
      let now := max s.now (s.tsv.periodStart + s.tsv.periodLen)
      let failed (f : FanId) : Bool := (s.fanOf f).st == .failed
      let first (test : Chan → Bool) : List Nat :=
        (([Chan.s0, .s1, .s2, .s3, .s4, .s5, .s6, .s7].find? test).map Chan.index).toList
      let reaches (threshold : ChannelParams → Temp) (c : Chan) : Bool := match t.working c with
        | some v => decide (threshold (s.chanParams c) ≤ v)
        | none => false
      let lost : List Nat := (([FanId.f0, .f1, .f3].find? failed).map FanId.index).toList
      let named (k : Cause) (indexes : List Nat) : List CauseAt := indexes.map (fun i => { cause := k, index := some i })
      let emergencies : List CauseAt :=
        named .critical (first (reaches (fun p => p.critical))) ++ named .fanFailed (if failed .f2 then [2] else [])
      let protects : List CauseAt :=
        named .sensorFault (first (fun c => (t.channel c).present && (t.channel c).fault)) ++
        named .warning (first (reaches (fun p => p.warning))) ++ named .fanFailed lost ++
        (if new.recirc then [{ cause := .recirculation, index := none }] else [])
      let runaway : CauseAt := { cause := .thermalRunaway, index := none }
      let hot := (∃ c v, t.working c = some v ∧ (s.chanParams c).critical ≤ v) ∨ failed .f2 = true
      let cause := (∃ c, (t.channel c).present = true ∧ (t.channel c).fault = true) ∨
        (∃ c v, t.working c = some v ∧ (s.chanParams c).warning ≤ v) ∨
        failed .f0 = true ∨ failed .f1 = true ∨ failed .f3 = true ∨ new.recirc = true
      let cleared := (∀ c v, t.working c = some v → v < (s.chanParams c).warning - 30) ∧
        (∀ c, (t.channel c).present = true → (t.channel c).fault = false) ∧
        failed .f0 = false ∧ failed .f1 = false ∧ failed .f3 = false ∧ new.recirc = false
      let e := t.derateExcess
      let moved (c : Nat) : Nat :=
        if 0 < e then max old.floor (c - 20) else if e < -20 then min old.lightMax (c + 10) else c
      let cut := if failed .f0 = true ∨ failed .f1 = true ∨ failed .f3 = true
        then max old.floor (min old.ceiling s.cfg.params.fanLossCeiling) else old.ceiling
      new.floor = old.floor ∧ new.lightMax = old.lightMax ∧ new.requested = old.requested ∧ new.lastDrive = old.lastDrive ∧
      new.handedN = some t.noticeValue ∧
      (old.regime = .emergency → new.regime = .emergency ∧ new.ceiling = 0) ∧
      (old.regime ≠ .emergency → hot →
        new.regime = .emergency ∧ new.ceiling = 0 ∧ new.dwell = 0) ∧
      (old.regime = .normal → ¬ hot → ¬ cause →
        new.regime = .normal ∧ new.ceiling = min old.lightMax (old.ceiling + 10) ∧ new.dwell = 0) ∧
      (old.regime = .normal → ¬ hot → cause →
        new.regime = .protect ∧ new.ceiling = moved cut ∧
        new.dwell = (if moved cut = old.floor ∧ 0 < e then 1 else 0)) ∧
      (old.regime = .protect → ¬ hot → cleared →
        new.regime = .normal ∧ new.ceiling = min old.lightMax (old.ceiling + 10) ∧ new.dwell = 0) ∧
      (old.regime = .protect → ¬ hot → ¬ cleared →
        (moved old.ceiling = old.floor → 0 < e → 39 ≤ old.dwell →
          new.regime = .emergency ∧ new.ceiling = 0 ∧ new.dwell = 0 ∧ RegimeChanged s .emergency runaway t ∧
          new.causes = emergencies ++ protects ++ [runaway]) ∧
        (moved old.ceiling = old.floor → 0 < e → old.dwell < 39 →
          new.regime = .protect ∧ new.ceiling = old.floor ∧ new.dwell = old.dwell + 1) ∧
        (¬ (moved old.ceiling = old.floor ∧ 0 < e) →
          new.regime = .protect ∧ new.ceiling = moved old.ceiling ∧ new.dwell = 0)) ∧
      (old.regime ≠ .emergency → ∀ k, emergencies.head? = some k → RegimeChanged s .emergency k t) ∧
      (old.regime = .normal → ¬ hot → ∀ k, protects.head? = some k → RegimeChanged s .protect k t) ∧
      (old.regime = .protect → ¬ hot → cleared → RegimeChanged s .normal
        { cause := if old.recircLast then .recirculation else .cooled, index := none } t) ∧
      (new.regime = old.regime → new.entryCause = old.entryCause ∧
        ∀ q ∈ t.hli.queue, q.detail.kind = 0x01 → q ∈ s.hli.queue) ∧
      (new.entryCause ≠ some runaway ∨ new.regime = old.regime → new.causes = emergencies ++ protects) ∧
      new.recircLast = new.recirc ∧
      (∀ c ∈ s.cfg.params.derateSet, ∀ v, t.working c = some v → v - (s.chanParams c).derate ≤ e) ∧
      ((∀ c ∈ s.cfg.params.derateSet, t.working c = none) → e = 0) ∧
      ((∃ c ∈ s.cfg.params.derateSet, t.working c ≠ none) →
        ∃ c ∈ s.cfg.params.derateSet, ∃ v, t.working c = some v ∧ e = v - (s.chanParams c).derate) ∧
      (new.regime = .protect → new.excess = some e) ∧
      (s.cfg.orientation = .ceiling → ∀ a b, t.working .s0 = some a → t.working .s1 = some b →
        (old.recirc = false →
          let n := if b - 40 ≤ a ∧ 300 ≤ (t.fanOf .f1).periodDuty then old.entryCount + 1 else 0
          (20 ≤ n → new.recirc = true ∧ new.entryCount = 0 ∧ new.clearCount = 0) ∧
          (n < 20 → new.recirc = false ∧ new.entryCount = n)) ∧
        (old.recirc = true →
          let n := if a ≤ b - 80 then old.clearCount + 1 else 0
          (20 ≤ n → new.recirc = false ∧ new.entryCount = 0 ∧ new.clearCount = 0) ∧
          (n < 20 → new.recirc = true ∧ new.clearCount = n))) ∧
      (s.cfg.orientation = .table → new.recirc = old.recirc ∧ new.entryCount = old.entryCount ∧
        new.clearCount = old.clearCount) ∧
      (old.runOn = none → new.runOn = none ∧ new.lastRunOnEnd = old.lastRunOnEnd) ∧
      (∀ began, old.runOn = some began →
        let minimum := match s.lel.resolved with
          | some a => a.minRunOn * 1000
          | none => 0
        let cool (c : Chan) : Prop := ∀ v, t.working c = some v → v < s.cfg.params.runOnRelease
        let over_ := minimum ≤ now - began ∧ cool .s2 ∧ cool .s6 ∧ cool .s7
        (over_ → new.runOn = none ∧ new.lastRunOnEnd = .temperature ∧
          ∃ q ∈ t.hli.queue, q.detail = .cooldownDone .temperature ((now - began) / 1000)) ∧
        (¬ over_ → new.runOn = old.runOn ∧ new.lastRunOnEnd = old.lastRunOnEnd)) ∧
      (s.hli.rest = false → t.hli.rest = false) ∧
      (s.hli.rest = true →
        let due := ∀ t0, s.sen.lastSample = some t0 → t0 + 2000 ≤ now
        let warm := ∃ c v, t.working c = some v ∧ (s.chanParams c).warning ≤ v
        (t.hli.rest = true ↔ new.regime = old.regime ∧ ¬ (due ∧ warm)) ∧
        (new.regime = old.regime ∨ order.wakeFirst = true → due → ∀ c v, t.working c = some v → (s.chanParams c).warning ≤ v →
          (∀ k, k.index < c.index → ∀ w, t.working k = some w → w < (s.chanParams k).warning) →
          ∃ q ∈ t.hli.queue, q.detail = .woke (.temperature c)) ∧
        (new.regime ≠ old.regime → ¬ (due ∧ warm) ∨ order.wakeFirst = false →
          ∃ q ∈ t.hli.queue, q.detail = .woke (.regime new.regime)))

/-! ## Fans -/

/-- R30 to R36, R37, R41 to R43, R47: the fans at a period end. The governing temperature is the highest of its set, and the
curve duty is read from the curve in use, a half rounded up, an empty set reading its last breakpoint. Where the regime stays
and Rest is not in force, a fan whose duty the chain sets is commanded the chain's result: under NORMAL within its cap limit
and 50 of its previous duty, under PROTECT at once upward and 100 downward; a fan in KICK keeps its 1000 and the chain's own
result; any other fan keeps its duty. A fan RUNNING over the whole period is stall-checked, its third stall period on end
beginning a KICK; a fan wholly in a recovering SPINUP is checked for recovery. That a fan RUNNING from the very instant of
the period's start is checked is the model's choice (notes/assumptions/35.md), so are the fixed order within a period end and
the chain under EMERGENCY (notes/assumptions/10.md and 8.md), and the instant of the expiry (notes/assumptions/1.md). The
duty below which a fan is judged leaves out what was set in the very instant of the period end: the model's choice
(notes/assumptions/19.md). -/
def Obligations.ControlPeriodEndDrivesFans : Prop :=
  ∀ (th : Thermistors) (order : PeriodOrder) (s : State), s.inReset = false →
    ∃ t, exec (.controlPeriodEnd th order) s = .next t ∧ ∀ f : FanId,
      let now := max s.now (s.tsv.periodStart + s.tsv.periodLen)
      let p := s.fanParams f
      let x := s.fanOf f
      let y := t.fanOf f
      let curve := match s.cfg.orientation with
        | .table => p.curveT
        | .ceiling => p.curveC
      let temps := p.governing.filterMap (fun e => (t.working e.channel).map (fun v => v + e.offset))
      let g := t.governing p curve
      let d := t.curveDuty p
      let raised (n : Nat) : Nat := if 0 < n ∧ n < p.minDuty then p.minDuty else n
      let cap := match s.fan.profile with
        | .quiet => p.capQuiet
        | .standard => p.capStandard
        | .high => p.capHigh
      let limit := min 1000 (max p.minDuty cap + if s.fan.allowance then s.cfg.params.motionAllowance else 0)
      let ranged (prev target slewed : Nat) : Nat :=
        if prev = 0 ∧ 0 < target then p.minDuty else if target = 0 ∧ slewed < p.minDuty then 0 else slewed
      let chain (prev : Nat) : Nat :=
        if s.tsv.regime = .normal then
          let target := min d limit
          min limit (ranged prev target (if prev ≤ target then min target (prev + 50) else max target (prev - 50)))
        else ranged prev d (if prev ≤ d then d else max d (prev - 100))
      let low := if x.lowAt = now then x.lowBefore else x.low
      let slow := 2000 * y.speed < p.fullSpeed * low
      let wholly := x.st = .running ∧ x.since ≤ s.tsv.periodStart
      let kicks := wholly ∧ slow ∧ 2 ≤ x.stallRun
      let chained := (s.tsv.regime = .normal ∧ x.override = none) ∨ (s.tsv.regime = .protect ∧ x.st ≠ .failed)
      (temps ≠ [] → g ∈ temps ∧ ∀ v ∈ temps, v ≤ g) ∧
      (temps = [] → ∀ b, curve.getLast? = some b → g = b.temp) ∧
      (curve.Pairwise (fun b c => b.temp < c.temp) →
        (∀ b, curve.head? = some b → g ≤ b.temp → d = raised b.duty) ∧
        (∀ b, curve.getLast? = some b → b.temp ≤ g → d = raised b.duty) ∧
        ∀ (i : Nat) (b : Breakpoint), curve[i]? = some b → ∀ c, curve[i + 1]? = some c → b.temp < g → g ≤ c.temp →
          let n := c.temp - b.temp
          d = raised ((2 * (b.duty * n + (g - b.temp) * ((c.duty : Int) - b.duty)) + n) / (2 * n)).toNat) ∧
      (s.hli.rest = false → t.tsv.regime = s.tsv.regime → ¬ kicks →
        (x.st = .kick → y.st = .kick ∧ y.duty = x.duty ∧ y.kickPrev = chain x.kickPrev) ∧
        (x.st ≠ .kick → x.st ≠ .test → chained → y.duty = chain x.duty) ∧
        (x.st ≠ .kick → x.st = .test ∨ ¬ chained → y.duty = x.duty) ∧
        y.override = x.override) ∧
      (s.tsv.regime = .normal → t.tsv.regime ≠ .normal → y.override = none) ∧
      ((∀ r, s.fan.test.run = some r → (s.fanOf r.fan).st = .test) →
        (kicks → y.st = .kick ∧ y.duty = 1000 ∧ y.attempts = 1 ∧ y.stallCount = min 255 (x.stallCount + 1) ∧
          y.stallRun = 0 ∧ y.recovering = true ∧ y.kickDue = some (now + 1000) ∧ y.spinupDue = none) ∧
        (wholly → ¬ kicks → y.st ≠ .kick ∧ (y.st = .running → y.stallRun = if slow then x.stallRun + 1 else 0)) ∧
        (x.st = .running → ¬ wholly → y.st ≠ .kick ∧ (y.st = .running → y.stallRun = x.stallRun)) ∧
        (x.st = .spinup → x.recovering = true → x.since < s.tsv.periodStart → ¬ slow →
          y.attempts = 0 ∧ y.recovering = false ∧ y.stallRun = 0 ∧
          (t.tsv.regime = s.tsv.regime → y.duty ≠ 0 → y.st = .running ∧ y.spinupDue = none)) ∧
        (x.st = .spinup → x.recovering = false ∨ s.tsv.periodStart ≤ x.since ∨ slow → y.st ≠ .running ∧ y.st ≠ .kick))

/-- R34, R36, R45, R47: SET_ACOUSTIC sets the profile in force; under NORMAL each fan whose duty the chain sets and whose
duty exceeds its new cap limit is commanded the limit at once, and no other fan changes. A value outside the three is refused
with INVALID. FAN_RELEASE removes the host override of each named fan that has one; under NORMAL the released fan is lowered
at once to its cap limit. CLEAR_FAN takes each named fan that is FAILED out of FAILED, at the duty its source now gives, in
SPINUP where that is above 0 and in OFF where it is 0; its stall count is kept. No other fan changes, and no event is raised.
A fan value outside the five (0 to 3, and 4 for ALL, notes/assumptions/5.md) is refused with INVALID. The duty of a fan
handed back to its chain is the model's (notes/assumptions/8.md). -/
def Obligations.ProfileReleaseAndClearActOnFans : Prop :=
  (∀ (s : State) (n : Byte), s.Serving →
     (2 < n.toNat → exec (.setAcoustic [n]) s = .next (s.taken.answer 0x13 0x11#8 [])) ∧
     (n.toNat ≤ 2 → ∃ t, exec (.setAcoustic [n]) s = .next t ∧
       t = { s.taken.answer 0x00 0x11#8 [] with
             fan := { s.taken.fan with fans := t.fan.fans
                                       profile := if n.toNat = 0 then .quiet else if n.toNat = 1 then .standard else .high } } ∧
       ∀ f, let p := s.fanParams f
         let cap := if n.toNat = 0 then p.capQuiet else if n.toNat = 1 then p.capStandard else p.capHigh
         let limit := min 1000 (max p.minDuty cap + if s.fan.allowance then s.cfg.params.motionAllowance else 0)
         let x := s.taken.fanOf f
         (s.tsv.regime ≠ .normal ∨ x.st = .kick ∨ x.st = .test ∨ x.override ≠ none ∨ x.duty ≤ limit → t.fanOf f = x) ∧
         (s.tsv.regime = .normal → x.st ≠ .kick → x.st ≠ .test → x.override = none → limit < x.duty →
           t.fanOf f = x.command s.now limit))) ∧
  ((∀ (s : State) (n : Byte), s.Serving →
      (4 < n.toNat → exec (.fanRelease [n]) s = .next (s.taken.answer 0x13 0x13#8 [])) ∧
      (n.toNat ≤ 4 → ∃ t, exec (.fanRelease [n]) s = .next t ∧
        t = { s.taken.answer 0x00 0x13#8 [] with fan := { s.taken.fan with fans := t.fan.fans } } ∧
        ∀ f, let x := s.taken.fanOf f
          let y := { x with override := none }
          (n.toNat ≠ 4 → n.toNat ≠ f.index → t.fanOf f = x) ∧
          (x.override = none → t.fanOf f = x) ∧
          (n.toNat = 4 ∨ n.toNat = f.index → x.override ≠ none →
            (s.tsv.regime = .normal → x.st ≠ .kick → x.st ≠ .test → s.capLimit f < x.duty →
              t.fanOf f = y.command s.now (s.capLimit f)) ∧
            (s.tsv.regime ≠ .normal ∨ x.st = .kick ∨ x.st = .test ∨ x.duty ≤ s.capLimit f → t.fanOf f = y)))) ∧
   (∀ (s : State) (n : Byte), s.Serving →
      (4 < n.toNat → exec (.clearFan [n]) s = .next (s.taken.answer 0x13 0x15#8 [])) ∧
      (n.toNat ≤ 4 → ∃ t, exec (.clearFan [n]) s = .next t ∧
        t = { s.taken.answer 0x00 0x15#8 [] with fan := { s.taken.fan with fans := t.fan.fans } } ∧
        ∀ f, let x := s.taken.fanOf f
          let y := t.fanOf f
          let d := if s.tsv.regime = .emergency then 1000 else if s.tsv.regime = .protect then x.duty
            else x.override.getD (min x.duty (s.capLimit f))
          (n.toNat ≠ 4 → n.toNat ≠ f.index → y = x) ∧ (x.st ≠ .failed → y = x) ∧
          (n.toNat = 4 ∨ n.toNat = f.index → x.st = .failed →
            y.duty = d ∧ y.attempts = 0 ∧ y.stallRun = 0 ∧ y.recovering = false ∧ y.stallCount = x.stallCount ∧
            y.mismatch = x.mismatch ∧ y.override = x.override ∧ y.speed = x.speed ∧ y.kickDue = none ∧ y.since = s.now ∧
            (0 < d → y.st = .spinup ∧ y.spinupDue = some (s.now + 2000)) ∧ (d = 0 → y.st = .off ∧ y.spinupDue = none)))))

/-- R46, R30: FAN_FORCE of a fan of the part is refused by the three checks of its table in their order and changes nothing,
or sets the override of its fan, the duty raised or limited to its range, and commands a fan not in KICK that duty at once.
That a fan index above 3 is refused with INVALID ahead of those checks, and the reason bytes, are the model's choice
(notes/assumptions/8.md). A change of a fan's commanded duty moves its state in OFF, SPINUP and RUNNING, and in no other. -/
def Obligations.FanForceCommandsItsFan : Prop :=
  (∀ (s : State) (n x y : Byte), s.Serving →
     let asked := x.toNat * 256 + y.toNat
     (3 < n.toNat → exec (.fanForce [n, x, y]) s = .next (s.taken.answer 0x13 0x12#8 [])) ∧
     ∀ f, FanId.ofIndex n.toNat = some f →
       let d := if asked = 0 then 0 else max (s.fanParams f).minDuty (min 1000 asked)
       (s.fan.test.run ≠ none → exec (.fanForce [n, x, y]) s = .next (s.taken.answer 0x10 0x12#8 [])) ∧
       (s.fan.test.run = none → s.tsv.regime ≠ .normal →
         exec (.fanForce [n, x, y]) s = .next (s.taken.answer 0x15 0x12#8 [1#8, 0x0F#8])) ∧
       (s.fan.test.run = none → s.tsv.regime = .normal → (s.fanOf f).st = .failed →
         exec (.fanForce [n, x, y]) s = .next (s.taken.answer 0x15 0x12#8 [1#8, 0x0C#8])) ∧
       (s.fan.test.run = none → s.tsv.regime = .normal → (s.fanOf f).st ≠ .failed →
         ∃ t, exec (.fanForce [n, x, y]) s = .next t ∧
           t = { s.taken.answer (if d = asked then 0x00 else 0x01) 0x12#8 [BitVec.ofNat 8 (d / 256), BitVec.ofNat 8 d] with
                 fan := { s.taken.fan with fans := s.taken.fan.fans.set f (t.fanOf f) } } ∧
           ((s.taken.fanOf f).st = .kick → t.fanOf f = { s.taken.fanOf f with override := some d }) ∧
           ((s.taken.fanOf f).st ≠ .kick → t.fanOf f = { s.taken.fanOf f with override := some d }.command s.now d))) ∧
  (∀ (now d : Nat) (x : Fan),
     let y := x.command now d
     y.duty = d ∧ y.override = x.override ∧ y.speed = x.speed ∧ y.stallCount = x.stallCount ∧ y.mismatch = x.mismatch ∧
     y.kickDue = x.kickDue ∧ y.pulses = x.pulses ∧
     (d = x.duty → y = x) ∧
     (d ≠ x.duty →
       (x.st = .off → 0 < d → y.st = .spinup ∧ y.spinupDue = some (now + 2000) ∧ y.recovering = false) ∧
       (x.st = .spinup ∨ x.st = .running →
         (0 < d → y.st = x.st ∧ y.spinupDue = x.spinupDue ∧ y.stallRun = x.stallRun ∧ y.attempts = x.attempts ∧
           y.recovering = x.recovering) ∧
         (d = 0 → y.st = .off ∧ y.spinupDue = none ∧ y.stallRun = 0 ∧ y.attempts = 0 ∧ y.recovering = false)) ∧
       (x.st = .kick ∨ x.st = .failed ∨ x.st = .test → y.st = x.st ∧ y.spinupDue = x.spinupDue ∧ y.stallRun = x.stallRun ∧
         y.attempts = x.attempts ∧ y.recovering = x.recovering)))

/-- R48 to R51: FAN_TEST is refused while a test runs, under EMERGENCY and while the light source is reported on. Accepted,
it clears the record, skips each FAILED fan, and drives the first fan that is not FAILED at its first step duty; where all
are FAILED the test is complete at once. The reason bytes are the model's (notes/assumptions/8.md). The end of a test step
records its speed and judges it. Before the third step the fan goes on to the next step's duty; after it the fan is given its
result, leaves TEST at the duty its source gives, and the turn of the next fan that is not FAILED begins, or the test is
complete. With no test running there is no step to end. The duty of a fan handed back to its chain is the model's
(notes/assumptions/8.md). The instant of an expiry is notes/assumptions/1.md's. The acceptance of a TELEMETRY with drive
above 0 and the entry into EMERGENCY abort a running test, by the loss of a lit link, the reduction deadline, over-drive or a
period end: the row of the fan under test is INCOMPLETE with the speeds it had, the other rows are kept, the outcome is
ABORTED with the cause, FAN_TEST_DONE is raised with the number of fans that failed, and the fan leaves TEST at the duty its
source gives, 1000 under EMERGENCY. Over-drive in the very frame that lights the source gives the cause EMERGENCY
(notes/assumptions/40.md). -/
def Obligations.FanTestRuns : Prop :=
  (∀ s : State, s.Serving →
     (s.fan.test.run ≠ none → exec (.fanTest []) s = .next (s.taken.answer 0x10 0x14#8 [])) ∧
     (s.fan.test.run = none → s.tsv.regime = .emergency →
       exec (.fanTest []) s = .next (s.taken.answer 0x15 0x14#8 [1#8, 0x0F#8])) ∧
     (s.fan.test.run = none → s.tsv.regime ≠ .emergency → s.lel.st = .up → 0 < s.lel.drive →
       exec (.fanTest []) s = .next (s.taken.answer 0x15 0x14#8 [0#8])) ∧
     (s.fan.test.run = none → s.tsv.regime ≠ .emergency → (s.lel.st ≠ .up ∨ s.lel.drive = 0) →
       ∃ t, exec (.fanTest []) s = .next t ∧
         t = { s.taken.answer 0x02 0x14#8 [] with
               fan := { s.taken.fan with fans := t.fan.fans, test := t.fan.test }
               hli := { (s.taken.answer 0x02 0x14#8 []).hli with queue := t.hli.queue } } ∧
         (∀ f, (s.fanOf f).st ≠ .failed → (∀ g, g.index < f.index → (s.fanOf g).st = .failed) →
           t.fan.test.run = some { fan := f, step := 0, start := s.now, pulses := 0 } ∧
           t.fan.test.outcome = some .running ∧ t.fan.test.cause = none ∧ t.hli.queue = s.hli.queue ∧
           (∀ g, t.fan.test.rows.get g =
             { result := if g.index < f.index then .skipped else .notTested, speed1 := none, speed2 := none, speed3 := none }) ∧
           (∀ g, g ≠ f → t.fanOf g = s.taken.fanOf g) ∧
           (t.fanOf f).st = .test ∧ (t.fanOf f).duty = max (s.fanParams f).minDuty 300 ∧ (t.fanOf f).spinupDue = none ∧
           (t.fanOf f).kickDue = none ∧ (t.fanOf f).stallRun = 0 ∧ (t.fanOf f).attempts = 0 ∧
           (t.fanOf f).recovering = false ∧ (t.fanOf f).override = (s.taken.fanOf f).override ∧
           (t.fanOf f).stallCount = (s.taken.fanOf f).stallCount) ∧
         ((∀ f, (s.fanOf f).st = .failed) →
           t.fan.test.run = none ∧ t.fan.test.outcome = some .complete ∧ t.fan.fans = s.taken.fan.fans ∧
           (∀ g, (t.fan.test.rows.get g).result = .skipped) ∧
           t.hli.queue = insertEvent (.fanTestDone .complete none 0) s.hli.queue))) ∧
  (∀ s : State, s.inReset = false →
     (s.fan.test.run = none → exec .testStepEnd s = .next s) ∧
     ∀ r, s.fan.test.run = some r → ∃ t, exec .testStepEnd s = .next t ∧
       let f := r.fan
       let now := max s.now (r.start + 3000)
       let p := s.fanParams f
       let duty (k : Nat) := max p.minDuty (if k = 0 then 300 else if k = 1 then 600 else 1000)
       let speed := min 65535 (r.pulses * 30)
       let bad := 4 * speed * 1000 < 3 * (p.fullSpeed * duty r.step) ∨ 5 * (p.fullSpeed * duty r.step) < 4 * speed * 1000
       let old := s.fan.test.rows.get f
       let row := t.fan.test.rows.get f
       t = { s with now := now, fan := { s.fan with fans := t.fan.fans, test := t.fan.test }
                    hli := { s.hli with queue := t.hli.queue } } ∧
       (t.fanOf f).mismatch = (if bad then min 255 ((s.fanOf f).mismatch + 1) else (s.fanOf f).mismatch) ∧
       row.speed1 = (if r.step = 0 then some speed else old.speed1) ∧
       row.speed2 = (if r.step = 1 then some speed else old.speed2) ∧
       row.speed3 = (if 2 ≤ r.step then some speed else old.speed3) ∧
       row.result = (if bad ∨ (2 ≤ r.step ∧ old.result = .fail) then .fail else if 2 ≤ r.step then .pass else old.result) ∧
       (r.step < 2 →
         t.fan.test.run = some { fan := f, step := r.step + 1, start := now, pulses := 0 } ∧ t.hli.queue = s.hli.queue ∧
         t.fan.test.outcome = s.fan.test.outcome ∧ (∀ g, g ≠ f → t.fanOf g = s.fanOf g) ∧
         (∀ g, g ≠ f → t.fan.test.rows.get g = s.fan.test.rows.get g) ∧
         ((s.fanOf f).st = .test → (t.fanOf f).st = .test ∧ (t.fanOf f).duty = duty (r.step + 1))) ∧
       (2 ≤ r.step →
         (∀ g, f.index < g.index → (s.fanOf g).st ≠ .failed →
             (∀ k, f.index < k.index → k.index < g.index → (s.fanOf k).st = .failed) →
           t.fan.test.run = some { fan := g, step := 0, start := now, pulses := 0 } ∧ (t.fanOf g).st = .test ∧
           (t.fanOf g).duty = max (s.fanParams g).minDuty 300 ∧ t.hli.queue = s.hli.queue ∧
           (∀ k, f.index < k.index → k.index < g.index → (t.fan.test.rows.get k).result = .skipped) ∧
           (∀ k, k ≠ f → k ≠ g → t.fanOf k = s.fanOf k)) ∧
         ((∀ g, f.index < g.index → (s.fanOf g).st = .failed) →
           t.fan.test.run = none ∧ t.fan.test.outcome = some .complete ∧
           t.hli.queue = insertEvent (.fanTestDone .complete none t.fan.test.failed) s.hli.queue ∧
           (∀ k, k ≠ f → t.fanOf k = s.fanOf k)) ∧
         let x := s.fanOf f
         let d := if s.hli.rest then 0 else if s.tsv.regime = .emergency then 1000 else if s.tsv.regime = .protect then x.duty
           else x.override.getD (min x.duty (s.capLimit f))
         (0 < x.duty → (t.fanOf f).duty = d ∧ (t.fanOf f).st = (if d = 0 then .off else .running)))) ∧
  (∀ s : State, s.inReset = false → ∀ r, s.fan.test.run = some r →
     let f := r.fan
     let x := s.fanOf f
     let aborted (cause : TestCause) (t : State) : Prop :=
       t.fan.test.run = none ∧ t.fan.test.outcome = some .aborted ∧ t.fan.test.cause = some cause ∧
       t.fan.test.rows.get f = { s.fan.test.rows.get f with result := .incomplete } ∧
       (∀ g, g ≠ f → t.fan.test.rows.get g = s.fan.test.rows.get g) ∧
       (∃ q ∈ t.hli.queue, q.detail = .fanTestDone .aborted (some cause)
         ([FanId.f0, .f1, .f2, .f3].countP (fun g => (t.fan.test.rows.get g).result = .fail))) ∧
       (x.st = .test → s.hli.rest = false → 0 < x.duty →
         let d := if cause = .emergency then 1000 else if s.tsv.regime = .emergency then 1000
           else if s.tsv.regime = .protect then x.duty else x.override.getD (min x.duty (s.capLimit f))
         (t.fanOf f).duty = d ∧ (t.fanOf f).st = (if d = 0 then .off else .running))
     (∀ e : TelemetryFrame, e.sound = true → s.lel.st = .up → 0 < e.drive → ∃ t, exec (.telemetry e) s = .next t ∧
       aborted (if s.tsv.regime ≠ .emergency ∧ t.tsv.regime = .emergency then .emergency else .lightOn) t) ∧
     (s.tsv.regime ≠ .emergency →
       (∀ due, s.lel.deadline = some due → ∃ t, exec .reductionDeadlineExpiry s = .next t ∧ aborted .emergency t) ∧
       (∀ due, s.lel.lossDue = some due → 0 < s.lel.drive → ∃ t, exec .lossTimerExpiry s = .next t ∧ aborted .emergency t) ∧
       ∀ (th : Thermistors) (order : PeriodOrder), ∃ t, exec (.controlPeriodEnd th order) s = .next t ∧
         (t.tsv.regime = .emergency → aborted .emergency t) ∧
         (t.tsv.regime ≠ .emergency → t.fan.test = s.fan.test)))

/-- R30, R35, R36, R41 to R44, R49, R73: the SPINUP timer ends a start in RUNNING, begins another kick while fewer than
three were made, and makes a fan FAILED after the third. The KICK timer begins a recovering SPINUP at the duty the source
gives. A timer that is stopped does not expire. The duty of a fan handed back to its chain is the model's
(notes/assumptions/8.md). The tail of the motion allowance ends it and lowers the fans to their caps. The run-on limit ends
run-on by time and raises COOLDOWN_DONE with the elapsed whole seconds. A tachometer pulse is counted for the period, and
for the running test step in its last second; that a pulse at the instant at which that second begins is counted is the
model's choice (notes/assumptions/47.md). The instant of an expiry is notes/assumptions/1.md's. -/
def Obligations.FanAndRunOnTimers : Prop :=
  (∀ (f : FanId) (s : State), s.inReset = false →
     ((s.fanOf f).spinupDue = none → exec (.spinupExpiry f) s = .next s) ∧
     ((s.fanOf f).kickDue = none → exec (.kickExpiry f) s = .next s) ∧
     (∀ due, (s.fanOf f).spinupDue = some due →
       let x := s.fanOf f
       let now := max s.now due
       (x.recovering = false → ∃ t, exec (.spinupExpiry f) s = .next t ∧
         t = { s with now := now, fan := { s.fan with fans := s.fan.fans.set f (t.fanOf f) } } ∧
         t.fanOf f = { x with st := .running, since := now, spinupDue := none, stallRun := 0 }) ∧
       (x.recovering = true → x.attempts < 3 → ∃ t, exec (.spinupExpiry f) s = .next t ∧
         t = { s with now := now, fan := { s.fan with fans := s.fan.fans.set f (t.fanOf f) } } ∧
         (t.fanOf f).st = .kick ∧ (t.fanOf f).duty = 1000 ∧ (t.fanOf f).attempts = x.attempts + 1 ∧
         (t.fanOf f).recovering = true ∧ (t.fanOf f).spinupDue = none ∧ (t.fanOf f).kickDue = some (now + 1000) ∧
         (t.fanOf f).kickPrev = x.duty ∧ (t.fanOf f).stallCount = x.stallCount ∧ (t.fanOf f).override = x.override) ∧
       (x.recovering = true → 3 ≤ x.attempts → ∃ t, exec (.spinupExpiry f) s = .next t ∧
         t = { s with now := now, fan := { s.fan with fans := s.fan.fans.set f (t.fanOf f) }
                      hli := { s.hli with queue := insertEvent (.fanFault f x.stallCount) s.hli.queue } } ∧
         (t.fanOf f).st = .failed ∧ (t.fanOf f).attempts = x.attempts ∧ (t.fanOf f).spinupDue = none ∧
         (t.fanOf f).kickDue = none ∧ (t.fanOf f).stallCount = x.stallCount ∧
         (t.fanOf f).duty = (if s.hli.rest then 0 else if s.tsv.regime = .normal then x.override.getD x.duty else 1000))) ∧
     (∀ due, (s.fanOf f).kickDue = some due →
       let x := s.fanOf f
       let now := max s.now due
       let d := if s.hli.rest then 0 else if s.tsv.regime = .emergency then 1000
         else if s.tsv.regime = .protect then x.kickPrev else x.override.getD (min x.kickPrev (s.capLimit f))
       ∃ t, exec (.kickExpiry f) s = .next t ∧
         t = { s with now := now, fan := { s.fan with fans := s.fan.fans.set f (t.fanOf f) } } ∧
         t.fanOf f = { x with st := .spinup, since := now, kickDue := none, spinupDue := some (now + 2000),
                              recovering := true }.command now d)) ∧
  (((∀ s : State, s.inReset = false →
      (s.fan.tailDue = none → exec .allowanceTailExpiry s = .next s) ∧
      ∀ due, s.fan.tailDue = some due → ∃ t, exec .allowanceTailExpiry s = .next t ∧
        t = { s with now := max s.now due, fan := { s.fan with fans := t.fan.fans, allowance := false, tailDue := none } } ∧
        ∀ f, let p := s.fanParams f
          let limit := min 1000 (p.cap s.fan.profile)
          (s.tsv.regime ≠ .normal ∨ s.source f ≠ none ∨ (s.fanOf f).duty ≤ limit → t.fanOf f = s.fanOf f) ∧
          (s.tsv.regime = .normal → s.source f = none → limit < (s.fanOf f).duty →
            t.fanOf f = (s.fanOf f).command (max s.now due) limit)) ∧
    ∀ (f : FanId) (s : State), s.inReset = false → ∃ t, exec (.tachPulse f) s = .next t ∧
      t = { s with fan := { s.fan with fans := s.fan.fans.set f { s.fanOf f with pulses := (s.fanOf f).pulses + 1 }
                                       test := { s.fan.test with run := t.fan.test.run } } } ∧
      (∀ r, s.fan.test.run = some r → t.fan.test.run = some { r with
        pulses := if r.fan = f ∧ r.start + 2000 ≤ s.now then r.pulses + 1 else r.pulses }) ∧
      (s.fan.test.run = none → t.fan.test.run = none)) ∧
   (∀ s : State, s.inReset = false →
      (s.tsv.runOn = none → exec .runOnLimitExpiry s = .next s) ∧
      ∀ began, s.tsv.runOn = some began → ∃ t, exec .runOnLimitExpiry s = .next t ∧
        let now := max s.now (began + 600000)
        t = { s with now := now, tsv := { s.tsv with runOn := none, lastRunOnEnd := .timeLimit }
                     hli := { s.hli with queue := insertEvent (.cooldownDone .timeLimit ((now - began) / 1000)) s.hli.queue } }))

/-! ## The light-engine link -/

/-- R79 to R82, R64, R15, R25, R76: an ADVERT with more than eight levels is a frame error. One that fails a check is
answered with ADVERT_REJECT and the first failed check's reason, and changes nothing else. One that passes every check is
accepted: the link is UP with the acknowledged ceiling none, the toggle 0, the deadline stopped and the loss timer at 200 ms;
F, M and C are formed again and N resolved; S6 and S7 are present as reported, and one that becomes absent in FAULT raises
SENSOR_FAULT with the cause ABSENT; ADVERT_REPLY and then a NOTICE become due. That S6 raises it before S7 is the model's
choice (notes/assumptions/13.md). -/
def Obligations.AdvertIsAnswered : Prop :=
  ∀ (a : AdvertFrame) (s : State), s.inReset = false →
    let reason : Option RejectReason :=
      if 900 < a.minDrive then some .minDrive
      else if a.levels.any (fun l => decide (l < a.minDrive) || decide (1000 < l)) then some .levelRange
      else if (a.levels.zip a.levels.tail).any (fun p => decide (p.2 ≤ p.1)) then some .levelOrder
      else if 300 < a.minRunOn then some .runOn
      else if 2 < a.thermals then some .thermalCount
      else none
    (8 < a.levels.length → exec (.advert a) s = .next
      { s with lel := { s.lel with frameErrors := min 255 (s.lel.frameErrors + 1), rx := .hunting } }) ∧
    (a.levels.length ≤ 8 → ∀ r, reason = some r → ∃ t, exec (.advert a) s = .next t ∧
      t = { s with lel := { s.lel with rx := .hunting, sending := t.lel.sending, waiting := t.lel.waiting } } ∧
      (s.lel.sending = none → t.lel.sending = some (.advertReject r) ∧ t.lel.waiting = s.lel.waiting) ∧
      (s.lel.sending ≠ none → t.lel.sending = s.lel.sending ∧ WaitingFrame.advertReject r ∈ t.lel.waiting)) ∧
    (a.levels.length ≤ 8 → reason = none → ∃ t, exec (.advert a) s = .next t ∧
      let floor := match a.levels with
        | [] => a.minDrive
        | l :: _ => l
      t = { s with sen := t.sen
                   tsv := { s.tsv with floor := floor, lightMax := max s.tsv.requested floor, ceiling := t.tsv.ceiling
                                       handedN := t.lel.n }
                   lel := { s.lel with st := .up, resolved := some a, solicitDue := none, ack := none, toggle := false
                                       lastEcho := none, deadline := none, deadlineWaits := false, overCount := 0, drive := 0
                                       lossDue := some (s.now + 200), noticeDue := some (s.now + 50), rx := .hunting
                                       n := t.lel.n, sending := t.lel.sending, waiting := t.lel.waiting }
                   hli := { s.hli with queue := t.hli.queue } } ∧
      t.lel.n = some t.noticeValue ∧ t.lightInhibit = true ∧
      (s.tsv.regime = .emergency → t.tsv.ceiling = s.tsv.ceiling) ∧
      (s.tsv.regime ≠ .emergency → t.tsv.ceiling = max floor (min t.tsv.lightMax s.tsv.ceiling)) ∧
      (s.lel.sending = none → t.lel.sending = some .advertReply ∧
        t.lel.waiting = s.lel.waiting.filter (fun w => w ≠ .notice) ++ [.notice]) ∧
      (s.lel.sending ≠ none → t.lel.sending = s.lel.sending ∧
        t.lel.waiting = s.lel.waiting.filter (fun w => w ≠ .advertReply ∧ w ≠ .notice) ++ [.advertReply, .notice]) ∧
      (∀ c, c ≠ .s6 → c ≠ .s7 → t.channel c = s.channel c) ∧
      (∀ c, c = .s6 ∨ c = .s7 →
        let here := if c = .s6 then 1 ≤ a.thermals else 2 ≤ a.thermals
        (here → (s.channel c).present = true → t.channel c = s.channel c) ∧
        (here → (s.channel c).present = false → t.channel c = .reset true) ∧
        (¬ here → (s.channel c).present = true → t.channel c = .reset false) ∧
        (¬ here → (s.channel c).present = false → t.channel c = s.channel c)) ∧
      (let faults (q : List QueueEntry) : List QueueEntry := q.filter (fun e => e.detail.kind = 0x02)
       let gone := [Chan.s6, .s7].filter (fun c =>
         (s.channel c).present && (s.channel c).fault && decide (a.thermals < (if c = .s6 then 1 else 2)))
       (gone = [] → faults t.hli.queue = faults s.hli.queue) ∧
       (QueueOk s.hli.queue → ∀ c, gone.getLast? = some c → faults t.hli.queue =
         [{ count := min 255 (((faults s.hli.queue).map (fun e => e.count)).sum + gone.length)
            detail := .sensorFault c false .absent }])) ∧
      (∃ q ∈ t.hli.queue, q.detail = .linkChanged s.lel.st .up
        (if s.lel.st = .up then .readvertised else .advertAccepted) none) ∧
      (s.lel.ack ≠ none → ∃ q ∈ t.hli.queue, q.detail = .ceilingChanged s.lel.ack none s.lel.n))

/-- R59 to R61, R76, R85 to R88, R18, R72: an unsound TELEMETRY is a frame error; a sound one is discarded while the link is
not UP. Accepted, it restarts the loss timer, acknowledges N where it echoes the toggle, which stops the reduction deadline,
counts the over-drive, which at the fifth frame enters EMERGENCY with the cause OVERDRIVE named in REGIME_CHANGED, unless it
is in force, is the source drive and the last reported drive, begins or cancels run-on, and is held for S6 and S7. -/
def Obligations.TelemetryIsTaken : Prop :=
  ∀ (f : TelemetryFrame) (s : State), s.inReset = false →
    let sound := f.drive ≤ 1000 ∧ (f.echo = 0x00#8 ∨ f.echo = 0x01#8 ∨ f.echo = 0xFF#8)
    (¬ sound → exec (.telemetry f) s = .next
      { s with lel := { s.lel with frameErrors := min 255 (s.lel.frameErrors + 1), rx := .hunting } }) ∧
    (sound → s.lel.st ≠ .up → exec (.telemetry f) s = .next { s with lel := { s.lel with rx := .hunting } }) ∧
    (sound → s.lel.st = .up → ∃ t, exec (.telemetry f) s = .next t ∧
      let echoes := f.echo = (if s.lel.toggle then 0x01#8 else 0x00#8)
      let ack := if echoes then s.lel.n else s.lel.ack
      let exceeds := ack.getD 0 + 10 < f.drive
      t = { s with sen := t.sen, fan := t.fan, tsv := t.tsv, lel := t.lel
                   hli := { s.hli with queue := t.hli.queue, rest := t.hli.rest } } ∧
      t.lel.st = .up ∧ t.lel.lossDue = some (s.now + 200) ∧ t.lel.lastEcho = some f.echo ∧ t.lel.ack = ack ∧
      t.lel.drive = f.drive ∧ t.lel.rx = .hunting ∧ t.lel.frameErrors = s.lel.frameErrors ∧
      (¬ exceeds → t.lel.overCount = 0) ∧
      (exceeds → t.lel.overCount = (if 4 ≤ s.lel.overCount then 0 else s.lel.overCount + 1)) ∧
      (exceeds → 4 ≤ s.lel.overCount → s.tsv.regime ≠ .emergency →
        RegimeChanged s .emergency { cause := .overdrive, index := none } t) ∧
      (exceeds → 4 ≤ s.lel.overCount → s.tsv.regime = .emergency → t.tsv.entryCause = s.tsv.entryCause) ∧
      (exceeds → 4 ≤ s.lel.overCount → t.tsv.regime = .emergency ∧ t.tsv.ceiling = (if s.tsv.regime = .emergency
        then s.tsv.ceiling else 0)) ∧
      (¬ (exceeds ∧ 4 ≤ s.lel.overCount) → t.tsv.regime = s.tsv.regime ∧ t.tsv.entryCause = s.tsv.entryCause ∧ t.tsv.ceiling = s.tsv.ceiling ∧
        t.lel.n = s.lel.n ∧ t.lel.toggle = s.lel.toggle ∧
        (echoes → t.lel.deadline = none ∧ t.lel.deadlineWaits = false) ∧
        (¬ echoes → t.lel.deadline = s.lel.deadline ∧ t.lel.deadlineWaits = s.lel.deadlineWaits)) ∧
      (ack ≠ s.lel.ack → ∃ q ∈ t.hli.queue, q.detail = .ceilingChanged s.lel.ack ack s.lel.n) ∧
      t.tsv.lastDrive = f.drive ∧
      (f.drive = 0 → 0 < s.tsv.lastDrive → s.tsv.runOn = none → t.tsv.runOn = some s.now ∧ t.tsv.lastRunOnEnd = .none) ∧
      (f.drive = 0 → (s.tsv.lastDrive = 0 ∨ s.tsv.runOn ≠ none) → t.tsv.runOn = s.tsv.runOn) ∧
      (0 < f.drive → t.tsv.runOn = none ∧ t.hli.rest = false ∧ t.fan.test.run = none) ∧
      (∀ c, c ≠ .s6 → c ≠ .s7 → t.channel c = s.channel c) ∧
      t.channel .s6 = (if (s.channel .s6).present then { s.channel .s6 with held := some f.first } else s.channel .s6) ∧
      t.channel .s7 = (if (s.channel .s7).present then { s.channel .s7 with held := some f.second } else s.channel .s7))

/-- R76: the receiver. Hunting, it takes only A5h and discards nothing; collecting, it stores a byte that fits and starts
the 2 ms again, discards the frame as one frame error at a byte that does not fit, at a framing error and when the 2 ms run
out, and takes a complete frame as the command of its kind. What LINK_FRAME_ERROR stands for is the model's
(notes/assumptions/30.md), and the instant of the time-out is notes/assumptions/1.md's. That an ADVERT or a TELEMETRY whose
fields do not fit is discarded at its CRC byte is the model's choice (notes/assumptions/42.md). -/
def Obligations.ReceiverCollectsFrames : Prop :=
  ∀ s : State, s.inReset = false →
    let errored (l : LelBlock) : Prop := l = { s.lel with frameErrors := min 255 (s.lel.frameErrors + 1), rx := .hunting }
    (s.lel.rx = .hunting → exec .linkFrameError s = .next s ∧ exec .interbyteTimeout s = .next s) ∧
    (∀ b : Byte, s.lel.rx = .hunting → ∃ t, exec (.linkByteReceived b) s = .next t ∧
      t = { s with lel := { s.lel with rx := if b = 0xA5#8 then .collecting [] (s.now + 2) else .hunting } }) ∧
    ∀ (bytes : List Byte) (due : Nat), s.lel.rx = .collecting bytes due →
      (∃ t, exec .linkFrameError s = .next t ∧ t = { s with lel := t.lel } ∧ errored t.lel) ∧
      (∃ t, exec .interbyteTimeout s = .next t ∧ t = { s with now := max s.now due, lel := t.lel } ∧ errored t.lel) ∧
      ∀ b : Byte,
        let length := (bytes.getD 1 0#8).toNat
        let complete := 2 ≤ bytes.length ∧ bytes.length = 2 + length
        let stored (l : LelBlock) : Prop := l = { s.lel with rx := .collecting (bytes ++ [b]) (s.now + 2) }
        (¬ complete → ∃ t, exec (.linkByteReceived b) s = .next t ∧ t = { s with lel := t.lel } ∧
          (bytes = [] → b = 0x11#8 ∨ b = 0x12#8 → stored t.lel) ∧
          (bytes = [] → b ≠ 0x11#8 → b ≠ 0x12#8 → errored t.lel) ∧
          (bytes = [0x12#8] → b = 7#8 → stored t.lel) ∧
          (bytes = [0x12#8] → b ≠ 7#8 → errored t.lel) ∧
          (bytes = [0x11#8] → 6 ≤ b.toNat → b.toNat ≤ 22 → b.toNat % 2 = 0 → stored t.lel) ∧
          (bytes = [0x11#8] → b.toNat < 6 ∨ 22 < b.toNat ∨ b.toNat % 2 = 1 → errored t.lel) ∧
          (2 ≤ bytes.length → bytes.length < 2 + length → stored t.lel)) ∧
        (complete →
          (b ≠ crc8 bytes → ∃ t, exec (.linkByteReceived b) s = .next t ∧ t = { s with lel := t.lel } ∧ errored t.lel) ∧
          (b = crc8 bytes → bytes.getD 0 0#8 = 0x12#8 → ∀ f, parseTelemetry (bytes.drop 2) = some f →
            exec (.linkByteReceived b) s = exec (.telemetry f) s) ∧
          (b = crc8 bytes → bytes.getD 0 0#8 ≠ 0x12#8 → ∀ a, parseAdvert (bytes.drop 2) = some a →
            exec (.linkByteReceived b) s = exec (.advert a) s) ∧
          (b = crc8 bytes → bytes.getD 0 0#8 ≠ 0x12#8 → parseAdvert (bytes.drop 2) = none →
            ∃ t, exec (.linkByteReceived b) s = .next t ∧ t = { s with lel := t.lel } ∧ errored t.lel))

/-- R75, R78, R84: the transmitter. The end of a frame begins the oldest waiting one, a NOTICE with the values then in
force. The solicit timer makes a SOLICIT due every 200 ms and the notice timer a NOTICE every 50 ms: sent at once on a free
line, else placed after every waiting frame in place of an earlier one of its kind. That a deadline whose NOTICE waits
counts from its sending is the model's reading (notes/assumptions/20.md), and that it also counts from a NOTICE which took
the place of the one it waited for is the model's choice (notes/assumptions/43.md). The instant of an expiry is
notes/assumptions/1.md's. -/
def Obligations.TransmitterSendsInOrder : Prop :=
  ∀ s : State, s.inReset = false →
    let notice (at_ : State) : TxFrame := .notice (at_.lel.n.getD 0) at_.lel.toggle at_.tsv.regime
    (s.lel.sending = none → exec .txFrameEnd s = .next s) ∧
    (s.lel.sending ≠ none → s.lel.waiting = [] → exec .txFrameEnd s = .next { s with lel := { s.lel with sending := none } }) ∧
    (∀ w rest, s.lel.waiting = w :: rest → s.lel.sending ≠ none → ∃ t, exec .txFrameEnd s = .next t ∧
      t = { s with lel := { s.lel with waiting := rest, sending := t.lel.sending, deadline := t.lel.deadline
                                       deadlineWaits := t.lel.deadlineWaits } } ∧
      t.lel.sending = some (match w with
        | .solicit => .solicit
        | .advertReply => .advertReply
        | .advertReject r => .advertReject r
        | .notice => notice s) ∧
      (w = .notice → s.lel.deadlineWaits = true → t.lel.deadline = some (s.now + 300) ∧ t.lel.deadlineWaits = false) ∧
      (w ≠ .notice ∨ s.lel.deadlineWaits = false →
        t.lel.deadline = s.lel.deadline ∧ t.lel.deadlineWaits = s.lel.deadlineWaits)) ∧
    (s.lel.solicitDue = none → exec .solicitTimerExpiry s = .next s) ∧
    (∀ due, s.lel.solicitDue = some due → ∃ t, exec .solicitTimerExpiry s = .next t ∧
      t = { s with now := max s.now due
                   lel := { s.lel with solicitDue := some (max s.now due + 200), sending := t.lel.sending
                                       waiting := t.lel.waiting } } ∧
      (s.lel.sending = none → t.lel.sending = some .solicit ∧ t.lel.waiting = s.lel.waiting) ∧
      (s.lel.sending ≠ none → t.lel.sending = s.lel.sending ∧
        t.lel.waiting = s.lel.waiting.filter (fun w => w ≠ .solicit) ++ [.solicit])) ∧
    (s.lel.noticeDue = none → exec .noticeTimerExpiry s = .next s) ∧
    (∀ due, s.lel.noticeDue = some due → ∃ t, exec .noticeTimerExpiry s = .next t ∧
      t = { s with now := max s.now due
                   lel := { s.lel with noticeDue := some (max s.now due + 50), sending := t.lel.sending
                                       waiting := t.lel.waiting, deadline := t.lel.deadline
                                       deadlineWaits := t.lel.deadlineWaits } } ∧
      (s.lel.sending = none → t.lel.sending = some (notice s) ∧ t.lel.waiting = s.lel.waiting) ∧
      (s.lel.sending ≠ none → t.lel.sending = s.lel.sending ∧ t.lel.deadline = s.lel.deadline ∧
        t.lel.waiting = s.lel.waiting.filter (fun w => w ≠ .notice) ++ [.notice]))

/-- R47, R59 to R61, R87, R89: the loss timer loses the link and reports LINK_LOST where the source drive is above 0; the
reduction deadline reports ACK_TIMEOUT. A report enters EMERGENCY with C and N at 0, its cause named in REGIME_CHANGED and
every host override removed, or changes nothing in it. Where a fan in TEST is the fan whose turn it is, which every step
keeps (StepKeepsEmergencyFansOk), every fan is then at 1000. LIGHT_INHIBIT is asserted. The instant of an expiry is
notes/assumptions/1.md's. -/
def Obligations.LossAndDeadlineReport : Prop :=
  ∀ s : State, s.inReset = false →
    let turns := ∀ f, (s.fanOf f).st = .test → ∃ r, s.fan.test.run = some r ∧ r.fan = f
    (s.lel.lossDue = none → exec .lossTimerExpiry s = .next s) ∧
    (s.lel.deadline = none → exec .reductionDeadlineExpiry s = .next s) ∧
    (∀ due, s.lel.lossDue = some due → ∃ t, exec .lossTimerExpiry s = .next t ∧
      t = { s with now := max s.now due, sen := t.sen, fan := t.fan, tsv := t.tsv, lel := t.lel
                   hli := { s.hli with queue := t.hli.queue, rest := t.hli.rest } } ∧
      t.lel.st = .lost ∧ t.lel.lossDue = none ∧ t.lel.noticeDue = none ∧ t.lel.ack = none ∧ t.lel.deadline = none ∧
      t.lel.overCount = 0 ∧ t.lel.solicitDue = some (max s.now due + 200) ∧ t.lel.resolved = s.lel.resolved ∧
      t.lel.drive = s.lel.drive ∧ t.lightInhibit = true ∧ WaitingFrame.notice ∉ t.lel.waiting ∧
      (s.lel.sending = none → t.lel.sending = some .solicit) ∧
      (s.lel.sending ≠ none → t.lel.sending = s.lel.sending ∧ WaitingFrame.solicit ∈ t.lel.waiting) ∧
      (t.channel .s6).held = none ∧ (t.channel .s7).held = none ∧ t.tsv.lastDrive = s.tsv.lastDrive ∧
      t.tsv.runOn = s.tsv.runOn ∧
      (s.lel.drive = 0 ∨ s.tsv.regime = .emergency → t.tsv = s.tsv ∧ t.fan = s.fan ∧ t.lel.n = s.lel.n ∧
        t.lel.toggle = s.lel.toggle) ∧
      (0 < s.lel.drive → s.tsv.regime ≠ .emergency → t.tsv.regime = .emergency ∧ t.tsv.ceiling = 0 ∧
        t.tsv.handedN = some 0 ∧ RegimeChanged s .emergency { cause := .linkLost, index := none } t ∧
        (turns → ∀ f, (t.fanOf f).duty = 1000)) ∧
      (∃ q ∈ t.hli.queue, q.detail =
        .linkChanged .up .lost .telemetryTimeout (some (s.lel.drive, decide (0 < s.lel.drive))))) ∧
    (∀ due, s.lel.deadline = some due → ∃ t, exec .reductionDeadlineExpiry s = .next t ∧
      t = { s with now := max s.now due, fan := t.fan, tsv := t.tsv
                   lel := { s.lel with n := t.lel.n, toggle := t.lel.toggle, noticeDue := t.lel.noticeDue
                                       sending := t.lel.sending, waiting := t.lel.waiting, deadline := t.lel.deadline
                                       deadlineWaits := t.lel.deadlineWaits }
                   hli := { s.hli with queue := t.hli.queue, rest := t.hli.rest } } ∧
      (s.tsv.regime = .emergency → t.tsv = s.tsv ∧ t.fan = s.fan ∧ t.hli.queue = s.hli.queue ∧
        t.lel = { s.lel with deadline := none, deadlineWaits := false }) ∧
      (s.tsv.regime ≠ .emergency → t.tsv.regime = .emergency ∧ t.tsv.ceiling = 0 ∧ t.tsv.handedN = some 0 ∧
        RegimeChanged s .emergency { cause := .ackTimeout, index := none } t ∧ t.lightInhibit = true ∧
        t.fan.test.run = none ∧ (turns → ∀ f, (t.fanOf f).duty = 1000)))

/-- R75, R76: the bytes of an ADVERT and of a TELEMETRY, as the engine sends them after the start byte, with their CRC-8, are
judged to be that frame; no frame is complete before its CRC byte. -/
def Obligations.EngineFramesDecode : Prop :=
  (∀ a : AdvertFrame, (Instr.advert a).wf = true →
    judgeFrame ((frameBytes 0x11#8 a.bytes).drop 1) = .advert a ∧
    ∀ n, 1 ≤ n → n < (frameBytes 0x11#8 a.bytes).length → judgeFrame (((frameBytes 0x11#8 a.bytes).take n).drop 1) = .more) ∧
  ∀ f : TelemetryFrame, (Instr.telemetry f).wf = true → f.sound = true →
    let value (v : Option Temp) : List Byte := match v with
      | some v => i16 v
      | none => [0x80#8, 0x00#8]
    let bytes := frameBytes 0x12#8 (u16 f.drive ++ [f.echo] ++ value f.first ++ value f.second)
    bytes.length = 11 ∧ judgeFrame (bytes.drop 1) = .telemetry f ∧
    ∀ n, 1 ≤ n → n < 11 → judgeFrame ((bytes.take n).drop 1) = .more

/-! ## The axes and the lens requests -/

/-- R95, R96, R100 to R106, R108, R109, R111, R122: one AXIS_STEP. A move counts its step, goes on, begins its second
segment, ends its deceleration, stops on its target and enters its hold stages, or slips at its end-stop above position 16. A
homing backs off and seeks; found, it stops at 0; stuck or not found, it is in FAULT at its resting level. An axis that is
neither issues no step. The whole-state clauses on where an order ends are those of an empty lens queue; with entries waiting
that do not name the axis it comes to rest alike, and an entry that names it alone for a home then starts. What follows a
stop under a motion hold that has ended is the model's reading (notes/assumptions/9.md), and so is a release time of 0 under
forced reduced hold (notes/assumptions/17.md). -/
def Obligations.AxisStepMovesAxis : Prop :=
  ∀ (a : AxisId) (e : Bool) (s : State), s.inReset = false →
    let x := s.axis a
    let becomes (y : Axis) : Host.Outcome State Fault Refusal := .next { s with axc := { s.axc with axes := s.axc.axes.set a y } }
    let mayRelease := a = .h ∨ s.cfg.params.vSelfLocking = true
    let atRest (y : Axis) : Axis :=
      { y with endstop := e, st := .idle, order := none, keptHome := false, motion := none, homing := none, energiseDue := none
               hold := if s.axc.forced then .reduced else .full
               holdDue := if s.axc.forced then (if mayRelease then some (s.now + (s.axisParams a).releaseTime * 1000) else none)
                          else some (s.now + 200 + (s.axisParams a).holdTime) }
    let faulted : Axis :=
      { x with endstop := e, st := .fault, pos := none, order := none, keptHome := false, motion := none, homing := none
               energiseDue := none, hold := if mayRelease then .released else .reduced, holdDue := none }
    let ends (t : State) (y : Axis) : Prop :=
      t = { s with fan := { s.fan with tailDue := t.fan.tailDue }, axc := { s.axc with axes := s.axc.axes.set a y }, lnc := t.lnc
                   geo := t.geo, mse := { s.mse with build := t.mse.build }
                   scp := { s.scp with stateA := t.scp.stateA, stateB := t.scp.stateB }
                   hli := { s.hli with queue := t.hli.queue } } ∧
      (t.anyInMotion = false → y.st ≠ .moving → t.fan.tailDue = some (s.now + 2000))
    (x.st ≠ .moving → x.st ≠ .homing → exec (.axisStep a e) s = becomes { x with endstop := e }) ∧
    (∀ target, x.order = some (.move target) → ∀ m, x.motion = some m → ∀ pos, x.pos = some pos → x.st = .moving →
      let p := if x.dirUp then pos + 1 else pos - 1
      let y : Axis := { x with endstop := e, pos := some p }
      let slips := e = true ∧ 16 < p
      (slips → s.lnc.queue = [] → ∃ t, exec (.axisStep a e) s = .next t ∧
        ends t (atRest { x with pos := some 0, slipCount := min 255 (x.slipCount + 1) }) ∧
        (∃ q ∈ t.hli.queue, q.detail = .slip a .inMotion p (min 255 (x.slipCount + 1))) ∧
        (a = .v → t.lnc.applied = 0 ∧ t.lnc.desired = 0 ∧ t.lnc.tcal = s.knownBarrel)) ∧
      (¬ slips → m.stopping = .no → p ≠ m.goal →
        exec (.axisStep a e) s = becomes { y with motion := some { m with run := m.run + 1 } }) ∧
      (¬ slips → m.stopping = .no → p = m.goal → m.goal ≠ target → exec (.axisStep a e) s = becomes
        { y with motion := some { goal := target, run := 0, stopping := .no }, dirUp := true }) ∧
      (¬ slips → m.stopping = .no → p = m.goal → m.goal = target → s.lnc.queue = [] → ∃ t, exec (.axisStep a e) s = .next t ∧
        ends t (atRest { x with pos := some target }) ∧
        (∀ c, s.lnc.correction = some c → a = .v →
          t.lnc.correction = none ∧ t.lnc.applied = s.convert .v target - c.heldBase) ∧
        (∀ r, s.lnc.executing = some r → s.lnc.correction = none → ∀ q, r.request.parts.get a = some q →
          r.answers.get a = none → (∀ b, b ≠ a → r.request.parts.get b = none ∨ r.answers.get b ≠ none) →
          t.lnc.executing = none ∧
          ∃ o, t.lnc.outcomes.getLast? = some o ∧ o.tag = r.request.tag ∧ o.origin = r.request.origin ∧
            o.axes.get a = some (axisOutcome q .ok) ∧
            ∃ w ∈ t.hli.queue, w.detail = .lensDone o (t.namedBases r.request))) ∧
      (¬ slips → m.stopping = .no → p = m.goal → m.goal = target →
        ((∀ r ∈ s.lnc.queue, r.parts.get a = none) → ∃ t, exec (.axisStep a e) s = .next t ∧
          t.axis a = atRest { x with pos := some target }) ∧
        (∀ r rest, s.lnc.queue = r :: rest → r.parts.get a = some .home → (∀ b, b ≠ a → r.parts.get b = none) →
          r.preset = none → s.axc.held = false → s.lnc.correction = none → ∀ c, s.lnc.executing = some c →
          c.request.parts.get a ≠ none → c.answers.get a = none →
          (∀ b, b ≠ a → c.request.parts.get b = none ∨ c.answers.get b ≠ none) →
          ∃ t, exec (.axisStep a e) s = .next t ∧ t.lnc.queue = rest ∧
            t.lnc.executing = some { request := r, answers := { h := none, v := none } } ∧
            (t.axis a).st = .homing ∧ (t.axis a).pos = none ∧ (t.axis a).order = some (.home .request))) ∧
      (∀ n, m.stopping = .halt n →
        (¬ slips → 1 < n → exec (.axisStep a e) s = becomes
          { y with motion := some { m with run := m.run + 1, stopping := .halt (n - 1) } }) ∧
        (¬ slips → n ≤ 1 → s.lnc.queue = [] → ∃ t, exec (.axisStep a e) s = .next t ∧ ends t (atRest y))) ∧
      (∀ n, m.stopping = .hold n →
        (¬ slips → 1 < n → exec (.axisStep a e) s = becomes
          { y with motion := some { m with run := m.run + 1, stopping := .hold (n - 1) } }) ∧
        (¬ slips → n ≤ 1 → s.axc.held = true → ∃ t, exec (.axisStep a e) s = .next t ∧
          ends t { y with st := .suspended, motion := none, energiseDue := none, hold := .reduced, holdDue := none }) ∧
        (¬ slips → n ≤ 1 → s.axc.held = false →
          (p = target → s.lnc.queue = [] → ∃ t, exec (.axisStep a e) s = .next t ∧ t.axis a = atRest y) ∧
          (p ≠ target → ∃ t, exec (.axisStep a e) s = .next t ∧
            t = { s with fan := { s.fan with allowance := true, tailDue := none }, axc := { s.axc with axes := t.axc.axes } } ∧
            (∀ b, b ≠ a → t.axis b = s.axis b) ∧
            t.axis a = { y with hold := if s.axc.forced then .reduced else .full, holdDue := none, energiseDue := none
                                motion := some { goal := if p < target then target
                                                         else target - (s.axisParams a).backlash
                                                 run := 0, stopping := .no }
                                dirUp := decide (p < target) })))) ∧
    (∀ n, x.homing = some (.backOff n) → x.st = .homing →
      (e = false → exec (.axisStep a e) s = becomes
        { x with endstop := e, homing := some (.seek 0 (s.axisParams a).travelLimit), dirUp := false }) ∧
      (e = true → n + 1 < 200 → exec (.axisStep a e) s = becomes { x with endstop := e, homing := some (.backOff (n + 1)) }) ∧
      (e = true → 200 ≤ n + 1 → s.lnc.queue = [] → ∃ t, exec (.axisStep a e) s = .next t ∧ ends t faulted ∧
        ∃ q ∈ t.hli.queue, q.detail = .homeDone a .failed (some .endstopStuck) x.homeOrigin)) ∧
    (∀ n limit, x.homing = some (.seek n limit) → x.st = .homing →
      (e = true → s.lnc.queue = [] → ∃ t, exec (.axisStep a e) s = .next t ∧ ends t (atRest { x with pos := some 0 }) ∧
        ∃ q ∈ t.hli.queue, q.detail = .homeDone a .ok none x.homeOrigin) ∧
      (e = false → n + 1 < limit + 500 → exec (.axisStep a e) s = becomes
        { x with endstop := e, homing := some (.seek (n + 1) limit) }) ∧
      (e = false → limit + 500 ≤ n + 1 → s.lnc.queue = [] → ∃ t, exec (.axisStep a e) s = .next t ∧ ends t faulted ∧
        ∃ q ∈ t.hli.queue, q.detail = .homeDone a .failed (some .notFound) x.homeOrigin))

/-- R96, R97, R99, R101, R102, R107, R108, R136: the energise timer starts the move or the homing it waits for; the hold
stage timer lowers the level to REDUCED and then, where the axis may be released, to RELEASED; an end-stop input that becomes
active above position 16 on an axis at rest or energising is a slip, and any other change only notes the level. A slip of V
takes the corrected position as its base at once, with A, D and the drift residual 0. A stopped timer does not expire. A
release time of 0 under forced reduced hold, and a move found to have no length, are the model's reading
(notes/assumptions/17.md and 18.md). So is the base of a correction in flight whose axis slips (notes/assumptions/34.md). The
instant of an expiry is notes/assumptions/1.md's. -/
def Obligations.AxisTimersAndEndstop : Prop :=
  ∀ (a : AxisId) (s : State), s.inReset = false →
    let x := s.axis a
    let at_ (now : Nat) (y : Axis) : Host.Outcome State Fault Refusal :=
      .next { s with now := now, axc := { s.axc with axes := s.axc.axes.set a y } }
    let mayRelease := a = .h ∨ s.cfg.params.vSelfLocking = true
    let release := (s.axisParams a).releaseTime
    let lowest : HoldLevel := if mayRelease then .released else .reduced
    let motionLevel : HoldLevel := if s.axc.forced then .reduced else .full
    (x.energiseDue = none → exec (.energiseExpiry a) s = .next s) ∧
    (∀ due, x.energiseDue = some due → x.st = .energising →
      let now := max s.now due
      (∀ target, x.order = some (.move target) → ∀ pos, x.pos = some pos → pos ≠ target →
        exec (.energiseExpiry a) s = at_ now
          { x with st := .moving, hold := motionLevel, holdDue := none, energiseDue := none
                   motion := some { goal := if pos < target then target else target - (s.axisParams a).backlash
                                    run := 0, stopping := .no }
                   dirUp := decide (pos < target) }) ∧
      (∀ target, x.order = some (.move target) → x.pos = some target → s.lnc.queue = [] →
        ∃ t, exec (.energiseExpiry a) s = .next t ∧
          t = { s with now := now, fan := { s.fan with tailDue := t.fan.tailDue }, axc := { s.axc with axes := t.axc.axes }
                       lnc := t.lnc, geo := t.geo, mse := { s.mse with build := t.mse.build }
                       scp := { s.scp with stateA := t.scp.stateA, stateB := t.scp.stateB }
                       hli := { s.hli with queue := t.hli.queue } } ∧
          (∀ b, b ≠ a → t.axis b = s.axis b) ∧
          t.axis a = { x with st := .idle, order := none, keptHome := false, motion := none, homing := none, energiseDue := none
                              hold := motionLevel
                              holdDue := if s.axc.forced then (if mayRelease then some (now + release * 1000) else none)
                                         else some (now + 200 + (s.axisParams a).holdTime) }) ∧
      (∀ origin, x.order = some (.home origin) → exec (.energiseExpiry a) s = at_ now
        { x with st := .homing, pos := none, hold := motionLevel, holdDue := none, energiseDue := none, motion := none
                 homing := some (if x.endstop then .backOff 0 else .seek 0 (s.axisParams a).travelLimit)
                 dirUp := x.endstop })) ∧
    (x.holdDue = none → exec (.holdStageExpiry a) s = .next s) ∧
    (∀ due, x.holdDue = some due →
      let now := max s.now due
      (x.hold ≠ .full ∨ (mayRelease ∧ release = 0) →
        exec (.holdStageExpiry a) s = at_ now { x with hold := lowest, holdDue := none }) ∧
      (x.hold = .full → ¬ (mayRelease ∧ release = 0) → exec (.holdStageExpiry a) s = at_ now
        { x with hold := .reduced, holdDue := if mayRelease then some (now + release * 1000) else none })) ∧
    (∀ e : Bool,
      (e = false ∨ x.endstop = true ∨ x.pos = none ∨ (x.st ≠ .idle ∧ x.st ≠ .suspended ∧ x.st ≠ .energising) →
        exec (.endstopChange a e) s = at_ s.now { x with endstop := e }) ∧
      ∀ pos, x.pos = some pos →
        (pos ≤ 16 → exec (.endstopChange a e) s = at_ s.now { x with endstop := e }) ∧
        (16 < pos → e = true → x.endstop = false → x.st = .idle ∨ x.st = .suspended ∨ x.st = .energising →
          let n := min 255 (x.slipCount + 1)
          ∃ t, exec (.endstopChange a e) s = .next t ∧
            t = { s with axc := { s.axc with axes := t.axc.axes }
                         lnc := t.lnc, geo := t.geo, mse := { s.mse with build := t.mse.build }
                         scp := { s.scp with stateA := t.scp.stateA, stateB := t.scp.stateB }
                         hli := { s.hli with queue := t.hli.queue } } ∧
            (∀ b, b ≠ a → t.axis b = s.axis b) ∧
            (x.st ≠ .idle → t.axis a = { x with endstop := true, pos := some 0, slipCount := n }) ∧
            (x.st = .idle → s.hli.rest = true →
              t.axis a = { x with endstop := true, pos := some 0, slipCount := n, hold := lowest, holdDue := none }) ∧
            (x.st = .idle → s.hli.rest = false → s.axc.forced = false →
              t.axis a = { x with endstop := true, pos := some 0, slipCount := n, hold := .full
                                  holdDue := some (s.now + 200 + (s.axisParams a).holdTime) }) ∧
            (x.st = .idle → s.hli.rest = false → s.axc.forced = true →
              t.axis a = { x with endstop := true, pos := some 0, slipCount := n, hold := .reduced
                                  holdDue := if mayRelease then some (s.now + release * 1000) else none }) ∧
            (∃ q ∈ t.hli.queue, q.detail = .slip a .atRest pos n) ∧
            (a = .h → t.lnc = s.lnc ∧ t.geo = s.geo ∧ t.mse = s.mse ∧ t.scp = s.scp) ∧
            (a = .v → t.lnc.applied = 0 ∧ t.lnc.desired = 0 ∧ t.lnc.tcal = s.knownBarrel ∧ t.lnc.driftResidual = 0 ∧
              t.base .v = t.screen .v ∧ t.geo.residual = { h := s.lnc.overrange.h, v := s.lnc.overrange.v })))

/-- R3, R90, R95, R107, R117, R119, R132, R194, R196: what the output lines and the lens positions follow from. LIGHT_INHIBIT
is deasserted only while the link is UP with an acknowledged ceiling above 0 outside EMERGENCY; ILEV is the hold level, OFF
where it is RELEASED; a screen position is the motor position, or the travel limit less it under CEILING; the V base is the
screen position less A, or what a correction in flight holds; the planned position is the target of the newest queue entry
that names the axis, else of the executing request, else the base; V is available, and the reachable drift limited, as R132
has it. -/
def Obligations.LinesAndPositionsFollowState : Prop :=
  ∀ (s : State) (a : AxisId),
    let limit : Int := (s.axisParams a).travelLimit
    let flip (p : Int) : Int := if s.cfg.orientation = .table then p else limit - p
    let target (p : Part) : Int := match p with
      | .move z _ _ => z
      | .home => flip 0
    let named (r : Request) : Bool := (r.parts.get a).isSome
    (s.lightInhibit = false ↔ s.lel.st = .up ∧ (∃ n, s.lel.ack = some n ∧ 0 < n) ∧ s.tsv.regime ≠ .emergency) ∧
    (s.attn = true ↔ s.hli.queue ≠ []) ∧ (s.readyLine = true ↔ s.hli.ready = true ∧ s.inReset = false) ∧
    s.ilev a = (match (s.axis a).hold with
      | .full => .full
      | .reduced => .reduced
      | .released => .off) ∧
    (∀ p : Int, s.convert a p = flip p ∧ s.motorTarget a p = (flip (max 0 (min limit p))).toNat) ∧
    s.screen a = (s.axis a).pos.map (fun m => flip m) ∧
    (a = .h → s.base a = s.screen a) ∧
    (a = .v → s.lnc.correction = none → s.base a = (s.screen a).map (fun p => p - s.lnc.applied)) ∧
    (a = .v → ∀ c, s.lnc.correction = some c → s.base a = (s.screen a).map (fun _ => c.heldBase)) ∧
    (∀ (i : Nat) (r : Request), s.lnc.queue[i]? = some r → ∀ p, r.parts.get a = some p →
      (s.lnc.queue.drop (i + 1)).any named = false → s.planned a = some (target p)) ∧
    (s.lnc.queue.any named = false →
      (∀ x, s.lnc.executing = some x → (∀ p, x.request.parts.get a = some p → s.planned a = some (target p)) ∧
        (x.request.parts.get a = none → s.planned a = s.base a)) ∧
      (s.lnc.executing = none → s.planned a = s.base a)) ∧
    (∀ rest : Bool, s.vAvailable rest = true ↔ (s.axis .v).pos ≠ none ∧ (s.axis .v).st = .idle ∧ (s.axis .v).order = none ∧
      (s.axis .v).keptHome = false ∧ s.axc.held = false ∧ rest = false) ∧
    (a = .v → ∀ b, s.base .v = some b → b + s.reachableDrift = max 0 (min limit (b + s.lnc.desired)))

/-- R108 to R112, R133, R95, R96: the motor-driver checks of a period end, on the S5 handed on at it. Forced reduced hold
and motion hold come into force at their thresholds and end 3.0 °C below. With no correction, no waiting request and no
drift to correct: forced reduced hold turns an axis in motion at REDUCED and takes a FULL axis at rest to its REDUCED stage,
and its end turns an axis in motion at FULL; the entry of motion hold begins the deceleration of a move, suspends one that
is energising and makes a homing a kept HOME; its end takes each kept order up again. MOTION_HELD names what it did to each
axis. A correction in flight is halted at the entry. The fixed order within a period end is the model's
(notes/assumptions/10.md), and so are an axis still decelerating under a hold that ends (notes/assumptions/9.md), a kept
move with no length (notes/assumptions/18.md) and the instant of the expiry (notes/assumptions/1.md). That a release time of
0 under forced reduced hold starts a stage of 0 s is the model's choice (notes/assumptions/17.md). -/
def Obligations.ControlPeriodEndGuardsMotorDriver : Prop :=
  ∀ (th : Thermistors) (order : PeriodOrder) (s : State), s.inReset = false →
    ∃ t, exec (.controlPeriodEnd th order) s = .next t ∧
      let now := max s.now (s.tsv.periodStart + s.tsv.periodLen)
      let s5 := (t.working .s5).getD (s.chanParams .s5).warning
      let enters := s.axc.held = false ∧ t.axc.held = true
      let ends := s.axc.held = true ∧ t.axc.held = false
      let quiet := s.lnc.queue = [] ∧ s.lnc.correction = none ∧ s.lnc.driftMode = .off ∧ s.lnc.applied = 0
      let motion : HoldLevel := if t.axc.forced then .reduced else .full
      let effect (a : AxisId) (z : Axis) : HoldEffect :=
        if z.keptHome then .keptHome
        else
          match z.order, z.st, z.motion.map (fun m => m.stopping) with
          | some (.move target), .suspended, _ => .suspendedMove (s.convert a target)
          | some (.move target), .moving, some (Stopping.hold _) => .suspendedMove (s.convert a target)
          | _, _, _ => .nothing
      (t.axc.forced = true ↔ (if s.axc.forced then s.cfg.params.motorReduce - 30 else s.cfg.params.motorReduce) ≤ s5) ∧
      (t.axc.held = true ↔ (if s.axc.held then s.cfg.params.motorHold - 30 else s.cfg.params.motorHold) ≤ s5) ∧
      (enters ∨ ends → quiet → ∃ q ∈ t.hli.queue, q.detail = .motionHeld t.axc.held s5
        (if t.axc.held then { h := effect .h (t.axis .h), v := effect .v (t.axis .v) }
         else { h := effect .h (s.axis .h), v := effect .v (s.axis .v) })) ∧
      (quiet → ∀ a,
        let x := s.axis a
        let moves := x.st = .moving ∨ x.st = .energising ∨ x.st = .homing
        let mayRelease := a = .h ∨ s.cfg.params.vSelfLocking = true
        let stage := if mayRelease then some (now + (s.axisParams a).releaseTime * 1000) else none
        let b : Axis :=
          if s.axc.forced = false ∧ t.axc.forced = true then
            if moves then { x with hold := .reduced } else if x.hold = .full then { x with hold := .reduced, holdDue := stage } else x
          else if s.axc.forced = true ∧ t.axc.forced = false ∧ moves then { x with hold := .full }
          else x
        let suspended : Axis := { b with st := .suspended, motion := none, energiseDue := none, hold := .reduced, holdDue := none }
        let dropped : Axis :=
          { b with st := .unreferenced, pos := none, hold := if mayRelease then .released else .reduced, holdDue := none
                   energiseDue := none, motion := none, homing := none, keptHome := true }
        (t.axc.held = s.axc.held → t.axis a = b) ∧
        (enters →
          (∀ m, x.motion = some m → x.st = .moving →
            let k := m.stopSteps (s.axisParams a) (x.pos.getD 0)
            (m.stopping ≠ .no → t.axis a = b) ∧
            (m.stopping = .no → 0 < k → t.axis a = { b with motion := some { m with stopping := .hold k } }) ∧
            (m.stopping = .no → k = 0 → t.axis a = suspended)) ∧
          (x.st = .homing → t.axis a = dropped) ∧
          (∀ o, x.order = some (.home o) → x.st = .energising → t.axis a = dropped) ∧
          (∀ z, x.order = some (.move z) → x.st = .energising → t.axis a = suspended) ∧
          (¬ moves → t.axis a = b)) ∧
        (ends →
          (x.keptHome = true →
            (b.hold = .released → t.axis a =
              { b with pos := none, order := some (.home x.homeOrigin), keptHome := false, st := .energising, hold := motion
                       holdDue := none, energiseDue := some (now + 50) }) ∧
            (b.hold ≠ .released → t.axis a =
              { b with pos := none, order := some (.home x.homeOrigin), keptHome := false, st := .homing, hold := motion
                       holdDue := none, energiseDue := none, motion := none
                       homing := some (if x.endstop then .backOff 0 else .seek 0 (s.axisParams a).travelLimit)
                       dirUp := x.endstop })) ∧
          (∀ z, x.order = some (.move z) → x.keptHome = false → x.st = .suspended → ∀ pos, x.pos = some pos →
            (pos ≠ z → t.axis a =
              { b with st := .moving, hold := motion, holdDue := none, energiseDue := none
                       motion := some { goal := if pos < z then z else z - (s.axisParams a).backlash, run := 0, stopping := .no }
                       dirUp := decide (pos < z) }) ∧
            (pos = z → t.axis a =
              { b with st := .idle, order := none, keptHome := false, motion := none, homing := none, energiseDue := none
                       hold := if t.axc.forced then .reduced else .full
                       holdDue := if t.axc.forced then stage else some (now + 200 + (s.axisParams a).holdTime) })) ∧
          (x.keptHome = false → x.st ≠ .suspended → t.axis a = b))) ∧
      (enters → s.lnc.correction ≠ none → s.lnc.queue = [] → ∀ m, (s.axis .v).motion = some m → (s.axis .v).st = .moving →
        m.stopping = .no →
        let k := m.stopSteps (s.axisParams .v) ((s.axis .v).pos.getD 0)
        (0 < k → (t.axis .v).motion = some { m with stopping := .halt k } ∧ t.lnc.correction = s.lnc.correction) ∧
        (k = 0 → (t.axis .v).st = .idle ∧ (t.axis .v).order = none ∧ t.lnc.correction = none))

/-- R118 to R125: LENS_MOVE_TO, LENS_MOVE_BY and LENS_HOME are refused where they name no axis, where the queue is full,
and, for a delta, where a planned position is absent; otherwise, both axes being sound (StepKeepsAxesOk), each is accepted
with the targets clamped to the travel in force, the clamped mark and the remainder. An accepted request that starts at once
sets the overrange residuals, the drift and the executing request by its origin, or completes at once where every axis
answers at once. A LENS_HOME names its axes by a list, in any order, of one or both. In what order a request is refused that
fails twice is the model's (notes/assumptions/24.md), and so are the applied drift of V where a HOME is kept or finds V not
referenced (notes/assumptions/14.md), a list that names an axis twice (notes/assumptions/37.md) and the reason FORM for an
index that is no axis's (notes/assumptions/5.md). -/
def Obligations.LensMovesAndHomesAreQueued : Prop :=
  ∀ (s : State) (tag : Byte) (h v : Option (Byte × Byte)), s.Serving →
    let field (o : Option (Byte × Byte)) : List Byte := match o with
      | none => [0#8]
      | some (x, y) => [1#8, x, y]
    let number (o : Option (Byte × Byte)) : Option Int := o.map (fun p => signedWord p.1 p.2)
    let part (a : AxisId) (z : Int) : Part :=
      let t := max 0 (min ((s.axisParams a).travelLimit : Int) z)
      .move t (t != z) (max (-2000) (min 2000 (z - t)))
    let full := 4 ≤ s.lnc.queue.length
    let none_ := h = none ∧ v = none
    (none_ → exec (.lensMoveTo (tag :: (field h ++ field v))) s = .next (s.taken.answer 0x13 0x20#8 []) ∧
      exec (.lensMoveBy (tag :: (field h ++ field v))) s = .next (s.taken.answer 0x13 0x21#8 [])) ∧
    (¬ none_ → full → exec (.lensMoveTo (tag :: (field h ++ field v))) s = .next (s.taken.answer 0x10 0x20#8 []) ∧
      exec (.lensMoveBy (tag :: (field h ++ field v))) s = .next (s.taken.answer 0x10 0x21#8 [])) ∧
    (AxesOk s → ¬ none_ → ¬ full → ∃ t, exec (.lensMoveTo (tag :: (field h ++ field v))) s = .next t ∧
      LensAccepted s.taken 0x20#8
        { tag := tag, origin := .moveTo, preset := none
          parts := { h := (number h).map (part .h), v := (number v).map (part .v) } } t ∧
      t.lnc.history = s.lnc.history) ∧
    (¬ none_ → ¬ full → (h ≠ none ∧ s.planned .h = none) ∨ (v ≠ none ∧ s.planned .v = none) →
      exec (.lensMoveBy (tag :: (field h ++ field v))) s = .next (s.taken.answer 0x15 0x21#8 [1#8, 0x0E#8])) ∧
    (AxesOk s → ¬ none_ → ¬ full → ¬ ((h ≠ none ∧ s.planned .h = none) ∨ (v ≠ none ∧ s.planned .v = none)) →
      ∃ t, exec (.lensMoveBy (tag :: (field h ++ field v))) s = .next t ∧
        LensAccepted s.taken 0x21#8
          { tag := tag, origin := .moveBy, preset := none
            parts := { h := (number h).map (fun d => part .h ((s.planned .h).getD 0 + d))
                       v := (number v).map (fun d => part .v ((s.planned .v).getD 0 + d)) } } t ∧
        t.lnc.history = s.lnc.history) ∧
    ∀ axes : List Byte, axes.length ≤ 58 →
      let home : Instr := .lensHome (tag :: BitVec.ofNat 8 axes.length :: axes)
      let part (a : AxisId) : Option Part := if BitVec.ofNat 8 a.index ∈ axes then some .home else none
      let coded := ∀ x ∈ axes, x.toNat ≤ 1
      (axes = [] → exec home s = .next (s.taken.answer 0x13 0x22#8 [])) ∧
      (¬ coded → exec home s = .next (s.taken.answer 0x13 0x22#8 [1#8, 2#8])) ∧
      (axes ≠ [] → coded → full → exec home s = .next (s.taken.answer 0x10 0x22#8 [])) ∧
      (AxesOk s → axes ≠ [] → coded → ¬ full → ∃ t, exec home s = .next t ∧
        LensAccepted s.taken 0x22#8 { tag := tag, origin := .home, preset := none, parts := { h := part .h, v := part .v } } t ∧
        t.lnc.history = s.lnc.history)

/-- R123, R125 to R130: LENS_RECALL is checked in the order of its table and pushes the planned positions, its drift and
geometry set at its start; LENS_BACK pops the top entry, or completes at once with HISTORY_EMPTY; LENS_STOP completes every
waiting entry as STOPPED, answers with the number it stopped, halts an axis that still carries out the executing request,
and with nothing in hand changes nothing. What an accepted LENS_RECALL or LENS_BACK leaves is stated where both axes are
sound, which every step keeps (StepKeepsAxesOk). That the number LENS_STOP answers with includes an executing request halted
already is the model's choice (notes/assumptions/37.md). -/
def Obligations.LensRecallBackStop : Prop :=
  ∀ (s : State) (tag n : Byte), s.Serving →
    let full := 4 ≤ s.lnc.queue.length
    let part (a : AxisId) (z : Int) : Part :=
      let t := max 0 (min ((s.axisParams a).travelLimit : Int) z)
      .move t (t != z) (max (-2000) (min 2000 (z - t)))
    let programming := s.sto.st.programming? = true
    let image := (s.sto.images.presets[n.toNat]?).join
    (9 < n.toNat → exec (.lensRecall [tag, n]) s = .next (s.taken.answer 0x13 0x24#8 [])) ∧
    (n.toNat ≤ 9 → programming → exec (.lensRecall [tag, n]) s = .next (s.taken.answer 0x11 0x24#8 [])) ∧
    (n.toNat ≤ 9 → ¬ programming → image = none → exec (.lensRecall [tag, n]) s = .next (s.taken.answer 0x14 0x24#8 [])) ∧
    (∀ p, image = some p → ¬ programming →
      (full → exec (.lensRecall [tag, n]) s = .next (s.taken.answer 0x10 0x24#8 [])) ∧
      (AxesOk s → ¬ full → ∃ t, exec (.lensRecall [tag, n]) s = .next t ∧
        let pushed := { h := s.planned .h, v := s.planned .v } :: s.lnc.history.take 5
        t.lnc.history = pushed ∧
        LensAccepted { s.taken with lnc := { s.lnc with history := pushed } } 0x24#8
          { tag := tag, origin := .recall, preset := some { tcal := p.tcal, geometry := p.geometry }
            parts := { h := p.hPos.map (fun z => part .h z), v := p.vPos.map (fun z => part .v z) } } t)) ∧
    (s.lnc.history = [] → ∃ t, exec (.lensBack [tag]) s = .next t ∧
      let o : OutcomeEntry := { tag := tag, origin := .back, outcome := .historyEmpty, axes := { h := none, v := none } }
      t = { s.taken.answer 0x02 0x25#8 [] with
            lnc := { s.lnc with outcomes := (if 4 ≤ s.lnc.outcomes.length then s.lnc.outcomes.drop 1 else s.lnc.outcomes) ++ [o] }
            hli := { (s.taken.answer 0x02 0x25#8 []).hli with
                     queue := insertEvent (.lensDone o { h := none, v := none }) s.hli.queue } }) ∧
    (∀ top rest, s.lnc.history = top :: rest →
      (full → exec (.lensBack [tag]) s = .next (s.taken.answer 0x10 0x25#8 [])) ∧
      (AxesOk s → ¬ full → ∃ t, exec (.lensBack [tag]) s = .next t ∧ t.lnc.history = rest ∧
        LensAccepted { s.taken with lnc := { s.lnc with history := rest } } 0x25#8
          { tag := tag, origin := .back, preset := none
            parts := { h := top.h.map (part .h), v := top.v.map (part .v) } } t)) ∧
    (∃ t, exec (.lensStop [tag]) s = .next t ∧
      t = { s.taken.answer 0x00 0x23#8
              [BitVec.ofNat 8 (s.lnc.queue.length + if s.lnc.executing = none then 0 else 1)] with
            fan := { s.taken.fan with tailDue := t.fan.tailDue }
            axc := { s.axc with axes := t.axc.axes }
            lnc := t.lnc, geo := t.geo, mse := { s.mse with build := t.mse.build }
            scp := { s.scp with stateA := t.scp.stateA, stateB := t.scp.stateB }
            hli := { (s.taken.answer 0x00 0x23#8
                [BitVec.ofNat 8 (s.lnc.queue.length + if s.lnc.executing = none then 0 else 1)]).hli with queue := t.hli.queue } } ∧
      t.lnc.queue = [] ∧ t.lnc.history = s.lnc.history ∧
      (s.lnc.executing = none → s.lnc.correction = none → (∀ a, (s.axis a).order ≠ some (.home .start)) →
        t.axc = s.axc ∧ t.geo = s.geo ∧ t.fan = s.taken.fan ∧
        t.lnc = { s.lnc with queue := [], outcomes := t.lnc.outcomes } ∧
        (s.lnc.queue = [] → t = s.taken.answer 0x00 0x23#8 [0#8]) ∧
        (s.lnc.outcomes.length ≤ 4 →
          let all := s.lnc.outcomes.map (fun o => (o.tag, o.outcome)) ++ s.lnc.queue.map (fun r => (r.tag, LensOutcome.stopped))
          t.lnc.outcomes.map (fun o => (o.tag, o.outcome)) = all.drop (all.length - 4))) ∧
      ∀ r, s.lnc.executing = some r → ∀ a, r.request.parts.get a ≠ none → r.answers.get a = none →
        ∀ m, (s.axis a).motion = some m → (s.axis a).st = .moving → m.stopping = .no →
          let k := m.stopSteps (s.axisParams a) ((s.axis a).pos.getD 0)
          (0 < k → t.axis a = { s.axis a with motion := some { m with stopping := .halt k } }) ∧
          (k = 0 → (t.axis a).st = .idle ∧ (t.axis a).pos = (s.axis a).pos ∧ (t.axis a).order = none))

/-- R125, R131, R135, R137: SET_OVERRANGE and SET_DRIFT_MODE take a mode of their list and refuse any other value. A change
to CLAMP sets both overrange residuals to 0; a change of the drift mode forms the drift residual again: 0 in OFF, D − A
within ±400 in DIGITAL. A digital residual that changes is handed to the geometry unit, which composes and builds; one that
does not is not. The drift residual of a correction in flight is the model's reading (notes/assumptions/15.md). What a
change to MOTOR forms while a request naming V executes is the model's choice (notes/assumptions/44.md), and that D − Dr is
not clamped with the V base outside the travel is notes/assumptions/48.md's. -/
def Obligations.LensModesReformResiduals : Prop :=
  ∀ (s : State) (n : Byte), s.Serving →
    let handed (t : State) : Prop :=
      t.geo.residual = { h := t.lnc.overrange.h, v := t.lnc.overrange.v + t.lnc.driftResidual } ∧
      (t.geo.residual = s.geo.residual → t.geo = s.geo ∧ t.mse = s.mse ∧ t.scp = s.scp ∧ t.hli.queue = s.hli.queue) ∧
      (t.geo.residual ≠ s.geo.residual →
        t.geo = { s.geo with residual := t.geo.residual
                             comp := composeInputs s.geo.keystone s.geo.zoom t.geo.residual s.pixelsPerStep } ∧
        ∃ b, t.mse.build = some b ∧ b.snapshot.comp = t.geo.comp)
    let frame (t : State) (kind : Byte) : Prop :=
      t = { s.taken.answer 0x00 kind [] with
            lnc := t.lnc, geo := t.geo, mse := { s.mse with build := t.mse.build }
            scp := { s.scp with stateA := t.scp.stateA, stateB := t.scp.stateB }
            hli := { (s.taken.answer 0x00 kind []).hli with queue := t.hli.queue } }
    (1 < n.toNat → exec (.setOverrange [n]) s = .next (s.taken.answer 0x13 0x26#8 [])) ∧
    (n.toNat = s.lnc.overrangeMode.code → exec (.setOverrange [n]) s = .next (s.taken.answer 0x00 0x26#8 [])) ∧
    (n.toNat = 1 → s.lnc.overrangeMode = .clamp → exec (.setOverrange [n]) s = .next
      { s.taken.answer 0x00 0x26#8 [] with lnc := { s.lnc with overrangeMode := .digital } }) ∧
    (n.toNat = 0 → s.lnc.overrangeMode = .digital → ∃ t, exec (.setOverrange [n]) s = .next t ∧ frame t 0x26#8 ∧
      t.lnc = { s.lnc with overrangeMode := .clamp, overrange := { h := 0, v := 0 } } ∧ handed t) ∧
    (2 < n.toNat → exec (.setDriftMode [n]) s = .next (s.taken.answer 0x13 0x27#8 [])) ∧
    (n.toNat = s.lnc.driftMode.code → exec (.setDriftMode [n]) s = .next (s.taken.answer 0x00 0x27#8 [])) ∧
    (n.toNat ≤ 2 → n.toNat ≠ s.lnc.driftMode.code → ∃ t, exec (.setDriftMode [n]) s = .next t ∧ frame t 0x27#8 ∧
      handed t ∧ t.lnc = { s.lnc with driftMode := t.lnc.driftMode, driftResidual := t.lnc.driftResidual } ∧
      t.lnc.driftMode.code = n.toNat ∧
      (n.toNat = 0 → t.lnc.driftResidual = 0) ∧
      (n.toNat = 2 → t.lnc.driftResidual = max (-400) (min 400 (s.lnc.desired - s.lnc.applied))) ∧
      (n.toNat = 1 → s.lnc.correction = none → s.vAvailable false = false →
        t.lnc.driftResidual = max (-400) (min 400 (s.lnc.desired - s.lnc.applied))) ∧
      (n.toNat = 1 → s.lnc.correction = none → s.vAvailable false = true →
        t.lnc.driftResidual = if 4 ≤ (s.reachableDrift - s.lnc.applied).natAbs then s.lnc.driftResidual
          else s.lnc.desired - s.reachableDrift))

/-- R131 to R133, R135, R137: the drift evaluation of a period end at which motion hold neither enters nor ends. With S3
KNOWN, Tcal is captured where it is none and D is kd × (S3 − Tcal) / 160, a half rounded away from zero, within ±400; else
both stay. While a request naming V executes nothing else changes. In MOTOR the residual is D − A while V is not available,
D − Dr where V is available within 3 steps of the reachable drift, and stands else; in DIGITAL it is D − A, in OFF 0. A
correction starts toward Dr in MOTOR, toward 0 in DIGITAL and OFF, where V is available, none is in flight, no request
executes and none waits; with the target within the travel, AX-V is then ENERGISING from RELEASED, else MOVING. The
residuals the geometry unit holds remain the lens controller's (StepKeepsResidualsHandedOver). The Rest that counts is the
one in force at the start of the period end (notes/assumptions/10.md). The residual of MOTOR while a correction is in flight
is the model's reading (notes/assumptions/15.md), and a target outside the travel and the instant of the expiry are
notes/assumptions/34.md's and 1.md's. That D − Dr is not clamped with the V base outside the travel is the model's choice
(notes/assumptions/48.md). -/
def Obligations.ControlPeriodEndTracksDrift : Prop :=
  ∀ (th : Thermistors) (order : PeriodOrder) (s : State), s.inReset = false →
    ∃ t, exec (.controlPeriodEnd th order) s = .next t ∧ (t.axc.held = s.axc.held →
      let l := s.lnc
      let limit : Int := (s.axisParams .v).travelLimit
      let v := s.axis .v
      let away (n : Int) : Int := if 0 ≤ n then (2 * n + 160) / 320 else -((2 * (-n) + 160) / 320)
      let base := (s.base .v).getD 0
      let d := t.lnc.desired
      let dr := max 0 (min limit (base + d)) - base
      let available := v.pos ≠ none ∧ v.st = .idle ∧ v.order = none ∧ v.keptHome = false ∧ s.axc.held = false ∧ s.hli.rest = false
      let far := 4 ≤ (dr - l.applied).natAbs
      let free := l.correction = none ∧ l.executing = none ∧ l.queue = []
      let executesV := match l.executing with
        | some e => e.request.parts.v.isSome
        | none => false
      let starts (aim : Int) : Prop :=
        t.lnc.correction = some { heldBase := base, aim := aim } ∧
        (t.axis .v).order = some (.move (s.convert .v (base + aim)).toNat) ∧
        (v.hold = .released → (t.axis .v).st = .energising) ∧ (v.hold ≠ .released → (t.axis .v).st = .moving)
      t.lnc = { l with tcal := t.lnc.tcal, desired := d, applied := t.lnc.applied, driftResidual := t.lnc.driftResidual
                       correction := t.lnc.correction } ∧
      (∀ s3, t.working .s3 = some s3 → t.quality .s3 = .known →
        t.lnc.tcal = some (l.tcal.getD s3) ∧
        d = max (-400) (min 400 (away (s.cfg.params.kd * (s3 - l.tcal.getD s3))))) ∧
      (t.quality .s3 ≠ .known → t.lnc.tcal = l.tcal ∧ d = l.desired) ∧
      (executesV = true → t.lnc.applied = l.applied ∧ t.lnc.driftResidual = l.driftResidual ∧ t.lnc.correction = l.correction) ∧
      (executesV = false →
        (l.driftMode = .motor → t.lnc.applied = l.applied ∧
          (l.correction ≠ none → t.lnc.driftResidual = l.driftResidual ∧ t.lnc.correction = l.correction) ∧
          (l.correction = none → ¬ available →
            t.lnc.driftResidual = max (-400) (min 400 (d - l.applied)) ∧ t.lnc.correction = none) ∧
          (l.correction = none → available → ¬ far → t.lnc.driftResidual = d - dr ∧ t.lnc.correction = none) ∧
          (available → far → free → t.lnc.driftResidual = l.driftResidual ∧ starts dr) ∧
          (l.correction = none → available → far → ¬ free →
            t.lnc.driftResidual = l.driftResidual ∧ t.lnc.correction = none)) ∧
        (l.driftMode ≠ .motor →
          (0 ≤ base → base ≤ limit → t.lnc.applied = l.applied) ∧
          t.lnc.driftResidual = (if l.driftMode = .off then 0 else max (-400) (min 400 (d - t.lnc.applied))) ∧
          (available → l.applied ≠ 0 → free → 0 ≤ base → base ≤ limit → starts 0) ∧
          (¬ available ∨ l.applied = 0 ∨ ¬ free → t.lnc.applied = l.applied ∧ t.lnc.correction = l.correction))) ∧
      (s.geo.residual = { h := l.overrange.h, v := l.overrange.v + l.driftResidual } →
        t.geo.residual = { h := t.lnc.overrange.h, v := t.lnc.overrange.v + t.lnc.driftResidual }))

/-! ## The picture and the scaler port -/

/-- R140, R141, R144, R145, R149, R155: SET_KEYSTONE and SET_ZOOM take their values limited to their ranges, answer with
them, and compose. Where the keystone or the zoom has changed a build starts on the bank that is not live, or the build in
flight starts again on its own bank; where neither has, none starts. A keystone form outside the two is refused with INVALID. -/
def Obligations.KeystoneAndZoomCompose : Prop :=
  ∀ (s : State) (a b c d : Byte) (form : Byte) (rest : List Byte), s.Serving →
    let limited (m x : Int) : Int := max (-m) (min m x)
    let bytes (z : Int) : List Byte := [BitVec.ofInt 8 (z / 256), BitVec.ofInt 8 z]
    let kv := limited 300 (signedWord a b)
    let kh := limited 300 (signedWord c d)
    let asked := a.toNat * 256 + b.toNat
    let z := max 768 (min 1024 asked)
    let composed (t : State) (k : Keystone) (zoom status : Nat) (kind : Byte) (answer : List Byte) : Prop :=
      let comp := composeInputs k zoom s.geo.residual s.pixelsPerStep
      t = { s.taken.answer status kind answer with
            geo := { s.geo with keystone := k, zoom := zoom, comp := comp }
            mse := { s.mse with build := t.mse.build }
            scp := { s.scp with stateA := t.scp.stateA, stateB := t.scp.stateB }
            hli := { (s.taken.answer status kind answer).hli with
                     queue := if comp.clipped then insertEvent (.shiftClipped comp.requested comp.applied) s.hli.queue
                              else s.hli.queue } } ∧
      (k = s.geo.keystone ∧ zoom = s.geo.zoom → t.mse = s.mse ∧ t.scp = s.scp) ∧
      (k ≠ s.geo.keystone ∨ zoom ≠ s.geo.zoom →
        t.mse.build = some { target := (s.mse.build.map (fun f => f.target)).getD s.scp.live.other
                             snapshot := { comp := comp, keystone := k, zoom := zoom, residual := s.geo.residual
                                           pixelsPerStep := s.pixelsPerStep, orientation := s.cfg.orientation } } ∧
        (s.mse.build ≠ none → t.scp = s.scp) ∧
        (s.mse.build = none → t.scp.stateOf s.scp.live.other = .building ∧
          t.scp.stateOf s.scp.live = s.scp.stateOf s.scp.live))
    (∃ t, exec (.setKeystone [0#8, a, b, c, d]) s = .next t ∧
      composed t (.slope kv kh) s.geo.zoom (if kv = signedWord a b ∧ kh = signedWord c d then 0x00 else 0x01) 0x30#8
        ([0#8] ++ bytes kv ++ bytes kh)) ∧
    (∀ tl tr br bl : (Byte × Byte) × (Byte × Byte),
      let sent (p : (Byte × Byte) × (Byte × Byte)) : List Byte := [p.1.1, p.1.2, p.2.1, p.2.2]
      let corner (p : (Byte × Byte) × (Byte × Byte)) : Corner := ⟨signedWord p.1.1 p.1.2, signedWord p.2.1 p.2.2⟩
      let taken (p : (Byte × Byte) × (Byte × Byte)) : Corner :=
        ⟨max 0 (min 960 (corner p).dx), max 0 (min 540 (corner p).dy)⟩
      let back (p : (Byte × Byte) × (Byte × Byte)) : List Byte := bytes (taken p).dx ++ bytes (taken p).dy
      ∃ t, exec (.setKeystone ([1#8] ++ sent tl ++ sent tr ++ sent br ++ sent bl)) s = .next t ∧
        composed t (.corners (taken tl) (taken tr) (taken br) (taken bl)) s.geo.zoom
          (if taken tl = corner tl ∧ taken tr = corner tr ∧ taken br = corner br ∧ taken bl = corner bl then 0x00 else 0x01)
          0x30#8 ([1#8] ++ back tl ++ back tr ++ back br ++ back bl)) ∧
    (∃ t, exec (.setZoom [a, b]) s = .next t ∧
      composed t s.geo.keystone z (if z = asked then 0x00 else 0x01) 0x31#8 [BitVec.ofNat 8 (z / 256), BitVec.ofNat 8 z]) ∧
    (1 < form.toNat → rest.length < 60 → exec (.setKeystone (form :: rest)) s = .next (s.taken.answer 0x13 0x30#8 []))

/-- R145 to R147: the four stages of a composition. The displacements are the corner values, or those of the slopes, rounded
half up; the corners are placed inward from the panel's, zoomed about its centre exactly, and moved by the shift; the
requested shift is the residual times the pixels per step over 256, rounded half away from zero before the sign of the shift
down, and the applied shift is it limited to the room the zoomed corners leave on the panel. The clipped mark is yes where
the limit changes a component, the identity mark where nothing displaces, zooms or moves the picture. -/
def Obligations.CompositionFollowsItsStages : Prop :=
  ∀ (k : Keystone) (z : Nat) (residual : PerAxis Int) (pps : PerAxis Nat),
    let c := composeInputs k z residual pps
    let px (n : Int) : Int := (2 * n + 1000) / 2000
    let away (n : Int) : Int := if 0 ≤ n then (2 * n + 256) / 512 else -((2 * (-n) + 256) / 512)
    let d : Corner × Corner × Corner × Corner := match k with
      | .corners tl tr br bl => (tl, tr, br, bl)
      | .slope kv kh =>
        let top := if 0 < kv then px (kv * 1920) else 0
        let bottom := if kv < 0 then px (-kv * 1920) else 0
        let right := if 0 < kh then px (kh * 1080) else 0
        let left := if kh < 0 then px (-kh * 1080) else 0
        (⟨top, left⟩, ⟨top, right⟩, ⟨bottom, right⟩, ⟨bottom, left⟩)
    let zx (x : Int) : Int := 1920 * 1024 + (x - 1920) * z
    let zy (y : Int) : Int := 1080 * 1024 + (y - 1080) * z
    let (tl, tr, br, bl) := d
    let xs := [zx tl.dx, zx (3840 - tr.dx), zx (3840 - br.dx), zx bl.dx]
    let ys := [zy tl.dy, zy tr.dy, zy (2160 - br.dy), zy (2160 - bl.dy)]
    let least (l : List Int) : Int := l.tail.foldl min (l.headD 0)
    let most (l : List Int) : Int := l.tail.foldl max (l.headD 0)
    let ax := max (-least xs) (min (3840 * 1024 - most xs) (c.requested.x * 1024))
    let ay := max (-least ys) (min (2160 * 1024 - most ys) (c.requested.y * 1024))
    c.requested = ⟨away (residual.h * pps.h), -away (residual.v * pps.v)⟩ ∧ c.applied = ⟨ax, ay⟩ ∧
    c.quad = { tl := ⟨zx tl.dx + ax, zy tl.dy + ay⟩, tr := ⟨zx (3840 - tr.dx) + ax, zy tr.dy + ay⟩
               br := ⟨zx (3840 - br.dx) + ax, zy (2160 - br.dy) + ay⟩, bl := ⟨zx bl.dx + ax, zy (2160 - bl.dy) + ay⟩ } ∧
    (c.clipped = true ↔ ax ≠ c.requested.x * 1024 ∨ ay ≠ c.requested.y * 1024) ∧
    (c.identity = true ↔ d = (⟨0, 0⟩, ⟨0, 0⟩, ⟨0, 0⟩, ⟨0, 0⟩) ∧ z = 1024 ∧ ax = 0 ∧ ay = 0)

/-- R147: every quad composed from inputs within their ranges lies on the panel and is strictly convex in the order TL, TR,
BR, BL, so that the denominator of R150 is never 0. In each direction in which the panel has room for the requested shift, it
is the applied one. -/
def Obligations.ComposedQuadIsConvexOnPanel : Prop :=
  ∀ (k : Keystone) (z : Nat) (residual : PerAxis Int) (pps : PerAxis Nat), k.inRange = true → 768 ≤ z → z ≤ 1024 →
    let c := composeInputs k z residual pps
    let q := c.quad
    let onPanel (p : Point) : Prop := 0 ≤ p.x ∧ p.x ≤ 3840 * 1024 ∧ 0 ≤ p.y ∧ p.y ≤ 2160 * 1024
    let turns (p1 p2 p3 : Point) : Prop := 0 < (p2.x - p1.x) * (p3.y - p2.y) - (p2.y - p1.y) * (p3.x - p2.x)
    let dx := c.requested.x * 1024 - c.applied.x
    let dy := c.requested.y * 1024 - c.applied.y
    let fits (d high : Int) (l : List Int) : Prop := ∀ x ∈ l, 0 ≤ x + d ∧ x + d ≤ high
    onPanel q.tl ∧ onPanel q.tr ∧ onPanel q.br ∧ onPanel q.bl ∧
    turns q.tl q.tr q.br ∧ turns q.tr q.br q.bl ∧ turns q.br q.bl q.tl ∧ turns q.bl q.tl q.tr ∧
    (q.tr.x - q.br.x) * (q.bl.y - q.br.y) - (q.bl.x - q.br.x) * (q.tr.y - q.br.y) ≠ 0 ∧
    (fits dx (3840 * 1024) [q.tl.x, q.tr.x, q.br.x, q.bl.x] → dx = 0) ∧
    (fits dy (2160 * 1024) [q.tl.y, q.tr.y, q.br.y, q.bl.y] → dy = 0) ∧
    (c.clipped = false ↔ c.applied = { x := c.requested.x * 1024, y := c.requested.y * 1024 })

/-- R150 to R154: each node of a completed mesh is the source point that the inverted projective map gives at its panel
point, in exact rational arithmetic, clamped and rounded half up, marked OUTSIDE beyond the quad and on the vanishing line,
and placed by the orientation: CEILING takes screen node (16 − c, 10 − r). The whole panel gives (1920 c, 1728 r). -/
def Obligations.MeshNodesFollowProjectiveMap : Prop :=
  (∀ (q : Quad) (c r : Nat), c ≤ 16 → r ≤ 10 →
    let f (k : Int) : Rat := (k : Rat) / 1024
    let x0 := f q.tl.x
    let y0 := f q.tl.y
    let x1 := f q.tr.x
    let y1 := f q.tr.y
    let x2 := f q.br.x
    let y2 := f q.br.y
    let x3 := f q.bl.x
    let y3 := f q.bl.y
    let sumX := x0 - x1 + x2 - x3
    let sumY := y0 - y1 + y2 - y3
    let den := (x1 - x2) * (y3 - y2) - (x3 - x2) * (y1 - y2)
    let g := (sumX * (y3 - y2) - (x3 - x2) * sumY) / den
    let h := ((x1 - x2) * sumY - sumX * (y1 - y2)) / den
    let a := x1 - x0 + g * x1
    let b := x3 - x0 + h * x3
    let d := y1 - y0 + g * y1
    let e := y3 - y0 + h * y3
    let x : Rat := 240 * (c : Rat)
    let y : Rat := 216 * (r : Rat)
    let w := (d * h - e * g) * x + (b * g - a * h) * y + (a * e - b * d)
    let u := ((e - y0 * h) * x + (x0 * h - b) * y + (b * y0 - x0 * e)) / w
    let v := ((y0 * g - d) * x + (a - x0 * g) * y + (x0 * d - a * y0)) / w
    let clamped (t : Rat) : Rat := if t < 0 then 0 else if 1 < t then 1 else t
    let nearest (n : Nat) (t : Rat) : Prop := (n : Rat) - 1 / 2 ≤ t ∧ t < (n : Rat) + 1 / 2
    den ≠ 0 →
      (∃ n, (meshNodes q .table)[17 * r + c]? = some n ∧
        (w = 0 → n = { sx := 0, sy := 0, outside := true }) ∧
        (w ≠ 0 → (n.outside = false ↔ 0 ≤ u ∧ u ≤ 1 ∧ 0 ≤ v ∧ v ≤ 1) ∧
          nearest n.sx (8 * 3840 * clamped u) ∧ nearest n.sy (8 * 2160 * clamped v) ∧ n.sx ≤ 30720 ∧ n.sy ≤ 17280)) ∧
      (meshNodes q .ceiling)[17 * r + c]? = (meshNodes q .table)[17 * (10 - r) + (16 - c)]?) ∧
  (∀ (q : Quad) (o : Orientation), (meshNodes q o).length = 187) ∧
  ∀ c r : Nat, c ≤ 16 → r ≤ 10 →
    (meshNodes .panel .table)[17 * r + c]? = some { sx := 1920 * c, sy := 1728 * r, outside := false }

/-- R160, R163, R164, R171: a select latches the live bank and starts the limit; the bytes 6Dh and an address read the bank's
window from there, 00h beyond its 764 bytes; a burst whose first byte is not 6Dh reads zeros, and each byte of the command
and address reads 00h, in whichever command it is told of; the limit ends a burst, after which every byte is 00h until select
is deasserted. MESH_PEEK reads at most 15 nodes of the live bank and refuses a run it cannot start. The instant of an expiry
is notes/assumptions/1.md's. A select asserted while RESET_n is low is cut off and reads zeros: the model's reading of R173
(notes/assumptions/4.md). -/
def Obligations.ScalerReadsLiveBank : Prop :=
  ∀ (s : State) (data : List Byte) (first count : Byte),
    let zeros (n : Nat) : List Byte := List.replicate n 0#8
    let mesh := s.scp.meshOf s.scp.live
    let window := mesh.header.bytes ++ mesh.nodes.flatMap (fun n =>
      [(n.sx + if n.outside then 32768 else 0) / 256, n.sx + if n.outside then 32768 else 0, n.sy / 256, n.sy].map
        (BitVec.ofNat 8)) ++ mesh.duplicate.bytes
    let read (from_ n : Nat) : List Byte := (List.range n).map (fun i => (window[from_ + i]?).getD 0#8)
    let reply (phase : BurstPhase) (clocked : List Byte) : List Byte := match phase, clocked with
      | .command, c :: x :: y :: rest =>
        if c = 0x6D#8 then zeros 3 ++ read (x.toNat * 256 + y.toNat) rest.length else zeros (rest.length + 3)
      | .addressHigh, x :: y :: rest => zeros 2 ++ read (x.toNat * 256 + y.toNat) rest.length
      | .addressLow high, y :: rest => zeros 1 ++ read (high * 256 + y.toNat) rest.length
      | .data next, bytes => read next bytes.length
      | _, bytes => zeros bytes.length
    let reached : BurstPhase := match data with
      | [] => .command
      | [c] => if c = 0x6D#8 then .addressHigh else .ignored
      | [c, x] => if c = 0x6D#8 then .addressLow x.toNat else .ignored
      | c :: x :: y :: rest => if c = 0x6D#8 then .data (x.toNat * 256 + y.toNat + rest.length) else .ignored
    let peeked := (mesh.nodes.drop first.toNat).take count.toNat
    (s.inReset = false →
      exec (.burstStart data) s = .next
        { s with scp := { s.scp with line := .burst s.scp.live reached (s.now + 20), sent := reply .command data } } ∧
      (∀ (phase : BurstPhase) (due : Nat), s.scp.line = .burst s.scp.live phase due →
        (∃ t, exec (.burstEnd data) s = .next t ∧ t.scp.line = .idle ∧ t.scp.sent = s.scp.sent ++ reply phase data) ∧
        ∃ t, exec (.burstLimitExpiry data) s = .next t ∧ t.scp.line = .spent ∧ t.scp.sent = s.scp.sent ++ reply phase data ∧
          t.now = max s.now due) ∧
      (s.scp.line = .spent → exec (.burstEnd data) s = .next
        { s with scp := { s.scp with line := .idle, sent := s.scp.sent ++ zeros data.length } }) ∧
      (s.scp.line = .spent ∨ s.scp.line = .idle → exec (.burstLimitExpiry data) s = .next s)) ∧
    (s.Serving →
      (186 < first.toNat ∨ count.toNat = 0 ∨ 15 < count.toNat →
        exec (.meshPeek [first, count]) s = .next (s.taken.answer 0x13 0x32#8 [])) ∧
      (first.toNat ≤ 186 → 1 ≤ count.toNat → count.toNat ≤ 15 → exec (.meshPeek [first, count]) s = .next
        (s.taken.answer 0x00 0x32#8
          ([mesh.header.seq / 256, mesh.header.seq, mesh.header.bank.code, mesh.header.orientation.code,
              (if mesh.header.identity then 1 else 0) + (if mesh.header.clipped then 2 else 0), mesh.header.outsideCount,
              first.toNat, peeked.length].map (BitVec.ofNat 8) ++
            peeked.flatMap (fun n =>
              [(n.sx + if n.outside then 32768 else 0) / 256, n.sx + if n.outside then 32768 else 0, n.sy / 256, n.sy].map
                (BitVec.ofNat 8)))))) ∧
    (s.inReset = true → ∃ t, exec (.burstStart data) s = .next t ∧
      t = { s with scp := { s.scp with line := .spent, sent := zeros data.length } })

/-- R154, R161, R163 to R170: a swap makes the READY bank live and the other SPARE, raises MESH_LIVE, and changes no bank's
contents and no number. FRAME_SYNC swaps at once outside a burst and leaves a pending swap within one; the end of a burst and
the expiry of its limit take it; the sync-absent timer and a build completed without sync swap, or leave it pending,
likewise. A completed build writes its bank under the next sequence number, with both copies of the header and the check. The
instant of an expiry is notes/assumptions/1.md's. -/
def Obligations.SwapsFollowSync : Prop :=
  ∀ (s : State) (data : List Byte), s.inReset = false →
    let other := s.scp.live.other
    let burst := s.scp.burst? = true
    let ready := s.scp.stateOf other = .ready
    let swapped (b : State) (cause : SwapCause) (t : State) : Prop :=
      t = { b with scp := { b.scp with live := other, stateA := t.scp.stateA, stateB := t.scp.stateB, swapPending := false }
                   hli := { b.hli with queue := insertEvent (.meshLive (b.scp.meshOf other).header cause) b.hli.queue } } ∧
      t.scp.stateOf other = .live ∧ t.scp.stateOf s.scp.live = .spare
    let synced := { s with scp := { s.scp with syncAbsent := false, syncDue := some (s.now + 100) } }
    (burst → exec .frameSync s = .next { synced with scp := { synced.scp with swapPending := true } }) ∧
    (¬ burst → ¬ ready → exec .frameSync s = .next synced) ∧
    (¬ burst → ready → ∃ t, exec .frameSync s = .next t ∧ swapped synced .frameSync t) ∧
    (s.scp.syncDue = none → exec .syncAbsentExpiry s = .next s) ∧
    (∀ due, s.scp.syncDue = some due →
      let lost := { s with now := max s.now due, scp := { s.scp with syncAbsent := true, syncDue := none } }
      (¬ ready → exec .syncAbsentExpiry s = .next lost) ∧
      (ready → burst → exec .syncAbsentExpiry s = .next { lost with scp := { lost.scp with swapPending := true } }) ∧
      (ready → ¬ burst → ∃ t, exec .syncAbsentExpiry s = .next t ∧ swapped lost .syncAbsent t)) ∧
    (burst → ∃ t, exec (.burstEnd data) s = .next t ∧
      let ended := { s with scp := { s.scp with line := .idle, sent := t.scp.sent, swapPending := false } }
      (s.scp.swapPending = true → ready → swapped ended .burstEnd t) ∧
      (s.scp.swapPending = false ∨ ¬ ready → t = ended)) ∧
    (∀ k phase due, s.scp.line = .burst k phase due → ∃ t, exec (.burstLimitExpiry data) s = .next t ∧
      let cut := { s with now := max s.now due, scp := { s.scp with line := .spent, sent := t.scp.sent, swapPending := false } }
      (s.scp.swapPending = true → ready → swapped cut .burstEnd t) ∧
      (s.scp.swapPending = false ∨ ¬ ready → t = cut)) ∧
    (s.mse.build = none → exec .buildComplete s = .next s) ∧
    (∀ b, s.mse.build = some b → ∃ t, exec .buildComplete s = .next t ∧
      let n := if s.mse.counter = 65535 then 1 else s.mse.counter + 1
      let m := t.scp.meshOf b.target
      t.mse = { build := none, counter := n } ∧
      m.nodes = meshNodes b.snapshot.comp.quad b.snapshot.orientation ∧ m.duplicate = m.header ∧ m.header.seq = n ∧
      m.header.bank = b.target ∧ m.header.orientation = b.snapshot.orientation ∧
      m.header.identity = b.snapshot.comp.identity ∧ m.header.clipped = b.snapshot.comp.clipped ∧
      m.header.outsideCount = m.nodes.countP (fun k => k.outside) ∧ m.header.nodeCount = 187 ∧
      (m.header.bytes.map BitVec.toNat).sum % 256 = 0 ∧
      let filled := { s with mse := t.mse, scp := (s.scp.withMesh b.target m).withState b.target .ready }
      (s.scp.syncAbsent = false → t = filled) ∧
      (s.scp.syncAbsent = true → b.target = other → burst → t = { filled with scp := { filled.scp with swapPending := true } }) ∧
      (s.scp.syncAbsent = true → b.target = other → ¬ burst → swapped filled .syncAbsent t))

/-! ## The settings store -/

/-- R6 to R8, R174, R176, R179 to R181, R184 to R186: STORE_OPEN, STORE_WRITE and STORE_READ are checked in the order of
their rules and change nothing when refused; an accepted STORE_OPEN opens an empty stage, and a STORE_WRITE of a value
within its range stages it in place of an earlier one. STORE_ABANDON discards the open stage with every staged value, STO
becomes IDLE, and it is answered OK with the record of the stage; with no stage open it is refused with CONDITIONS and the
reason NO_STAGE, and nothing else changes: no record image, no array, no value in force, no event. The fields of each record
are those of the store field table: each code and index names its field, takes exactly the values of its form and range, as
that one parameter, and reads back as it was written; no other code and index names one, and a record absent has the
defaults. The payloads that name a record, the one byte of the record's number in the answer of STORE_ABANDON among them,
and the presence byte of a staged read, are the model's (notes/assumptions/5.md). -/
def Obligations.StoreStagesAndReadsFields : Prop :=
  (∀ (s : State) (n code index source : Byte) (value : List Byte) (lock : Bool), s.Serving → value.length ≤ 58 →
     let noted := { s.taken with installLock := lock }
     (11 < n.toNat → exec (.storeOpen [n] lock) s = .next (noted.answer 0x13 0x40#8 [])) ∧
     (∀ r, RecordId.ofNumber n.toNat = some r →
       (∀ p, s.sto.st = .programming p → exec (.storeOpen [n] lock) s = .next (noted.answer 0x11 0x40#8 [])) ∧
       (∀ g, s.sto.st = .staged g →
         exec (.storeOpen [n] lock) s = .next (noted.answer 0x10 0x40#8 [BitVec.ofNat 8 g.record.number])) ∧
       (s.sto.st = .idle → r = .install → lock = true →
         exec (.storeOpen [n] lock) s = .next (noted.answer 0x12 0x40#8 [])) ∧
       (s.sto.st = .idle → r ≠ .install ∨ lock = false → exec (.storeOpen [n] lock) s = .next
         { noted.answer 0x00 0x40#8 [] with sto := { s.sto with st := .staged { record := r, fields := [] } } })) ∧
     ((∀ g, s.sto.st ≠ .staged g) →
       exec (.storeWrite (code :: index :: value)) s = .next (s.taken.answer 0x15 0x41#8 [1#8, 0x03#8])) ∧
     (∀ g, s.sto.st = .staged g →
       let known := (g.record.defaults.read code.toNat index.toNat).isSome
       let fits := match g.record.defaults.write code.toNat index.toNat value with
         | .taken _ => true
         | _ => false
       (known = false →
         exec (.storeWrite (code :: index :: value)) s = .next (s.taken.answer 0x13 0x41#8 [1#8, 0x04#8])) ∧
       (known = true → fits = false →
         exec (.storeWrite (code :: index :: value)) s = .next (s.taken.answer 0x13 0x41#8 [1#8, 0x05#8])) ∧
       (fits = true → ∃ t, exec (.storeWrite (code :: index :: value)) s = .next t ∧ ∃ w, t.sto.st = .staged w ∧
         t = { s.taken.answer 0x00 0x41#8 [] with sto := { s.sto with st := .staged w } } ∧ w.record = g.record ∧
         w.value code index = some value ∧
         (∀ f ∈ g.fields, ¬ (f.code = code ∧ f.index = index) → w.value f.code f.index = g.value f.code f.index) ∧
         w.fields.length = (if (g.value code index).isSome then g.fields.length else g.fields.length + 1))) ∧
     (11 < n.toNat ∨ 1 < source.toNat →
       exec (.storeRead [n, code, index, source]) s = .next (s.taken.answer 0x13 0x44#8 [])) ∧
     (∀ r, RecordId.ofNumber n.toNat = some r → source.toNat ≤ 1 →
       let known := (r.defaults.read code.toNat index.toNat).isSome
       let programming := s.sto.st.programming? = true
       (known = false → exec (.storeRead [n, code, index, source]) s = .next (s.taken.answer 0x13 0x44#8 [])) ∧
       (known = true → programming →
         exec (.storeRead [n, code, index, source]) s = .next (s.taken.answer 0x11 0x44#8 [])) ∧
       (known = true → ¬ programming → source = 0#8 → s.sto.images.get r = none →
         exec (.storeRead [n, code, index, source]) s = .next (s.taken.answer 0x14 0x44#8 [])) ∧
       (∀ f, s.sto.images.get r = some f → known = true → ¬ programming → source = 0#8 →
         exec (.storeRead [n, code, index, source]) s =
           .next (s.taken.answer 0x00 0x44#8 ((f.read code.toNat index.toNat).getD []))) ∧
       (known = true → ¬ programming → source = 1#8 → (∀ g, s.sto.st = .staged g → g.record ≠ r) →
         exec (.storeRead [n, code, index, source]) s = .next (s.taken.answer 0x15 0x44#8 [1#8, 0x03#8])) ∧
       (∀ g, s.sto.st = .staged g → g.record = r → known = true → source = 1#8 →
         exec (.storeRead [n, code, index, source]) s = .next (s.taken.answer 0x00 0x44#8
           (match g.value code index with
            | some v => 1#8 :: v
            | none => [0#8]))))) ∧
  (∀ s : State, s.Serving →
     (∀ g, s.sto.st = .staged g → exec (.storeAbandon []) s = .next
       { s.taken.answer 0x00 0x43#8 [BitVec.ofNat 8 g.record.number] with sto := { s.sto with st := .idle } }) ∧
     ((∀ g, s.sto.st ≠ .staged g) → exec (.storeAbandon []) s = .next (s.taken.answer 0x15 0x43#8 [1#8, 0x03#8]))) ∧
  (∀ p, InstallFields p) ∧ (∀ w, WorkingFields w) ∧ (∀ k p, PresetFields k p) ∧ FieldDefaults

/-- R9, R10, R182: what an installation commit is checked against, and the full field set. The first check that fails names
its fan, set and breakpoint, its channel, or itself; none fails exactly where every curve ascends in temperature and does not
descend in duty, every warning threshold is below its critical one, the motor reduce threshold below the motor hold, and V
not self-locking with a release time of 0. The part is idle exactly where R10 has it so. Each unwritten field of the full
field set is that of the image or the default, each written field the staged value. The index of a breakpoint out of order is
the model's count (notes/assumptions/22.md). -/
def Obligations.InstallCommitIsCheckedWhole : Prop :=
  (∀ p : Install,
    let ordered (c : List Breakpoint) : Prop := c.Pairwise (fun b d => b.temp < d.temp ∧ b.duty ≤ d.duty)
    let curves := ∀ f, ordered (p.fans.get f).curveT ∧ ordered (p.fans.get f).curveC
    let thresholds := ∀ c, (p.channels.get c).warning < (p.channels.get c).critical
    (p.check = none ↔ curves ∧ thresholds ∧ p.motorReduce < p.motorHold ∧
      ¬ (p.vSelfLocking = true ∧ p.axes.v.releaseTime = 0)) ∧
    (∀ f set i, p.check = some (.curveOrder f set i) →
      let c := match set with
        | .table => (p.fans.get f).curveT
        | .ceiling => (p.fans.get f).curveC
      1 ≤ i ∧ ordered (c.take i) ∧ ¬ ordered (c.take (i + 1))) ∧
    (∀ c, p.check = some (.thresholdOrder c) → curves ∧ (p.channels.get c).critical ≤ (p.channels.get c).warning ∧
      ∀ k, k.index < c.index → (p.channels.get k).warning < (p.channels.get k).critical) ∧
    (p.check = some .motorThresholdOrder ↔ curves ∧ thresholds ∧ p.motorHold ≤ p.motorReduce)) ∧
  (∀ s : State, s.idleForInstall = true ↔
    (∀ a, ((s.axis a).st = .idle ∨ (s.axis a).st = .unreferenced ∨ (s.axis a).st = .fault) ∧ (s.axis a).order = none ∧
      (s.axis a).keptHome = false) ∧
    s.lnc.queue = [] ∧ s.lnc.executing = none ∧ s.lnc.correction = none ∧ s.mse.build = none ∧ s.fan.test.run = none) ∧
  (∀ (images : Images) (g : Stage) (code index : Byte),
    let whole := fullFieldSet images g
    let stored := (images.get g.record).getD g.record.defaults
    whole.id = g.record ∧
    (g.value code index = none → whole.read code.toNat index.toNat = stored.read code.toNat index.toNat) ∧
    ((g.fields.map (fun f => (f.code, f.index))).Nodup → ∀ v, g.value code index = some v →
      ∀ r, g.record.defaults.write code.toNat index.toNat v = .taken r → whole.read code.toNat index.toNat = some v))

/-- R182, R183, R175, R5, R9 to R12, R46, R178: STORE_COMMIT is checked in its order; accepted, it closes the stage and
begins programming the full field set, whose mark in the array is clear; of an installation record it takes the candidate as
the parameters in force: the recirculation watch is cleared where the part is turned from CEILING to TABLE; an axis beyond
its new travel limit loses its reference and V takes its hold level from the self-locking flag; a fan above 0 and below its
new minimum running duty is raised to it, so is a host override, and each fan whose duty the chain sets is lowered to its new
cap limit; a build starts where the orientation or a pixels-per-step value changed. Nothing else changes. The end of the
programming sets the mark and makes the image valid, or leaves the mark clear and the image absent, raises STORE_DONE, and
has a waiting RESTART load. The payload of a failed check and the index it names are the model's (notes/assumptions/5.md and
22.md). A minimum that stays as it was is no new one for an override of 0 (notes/assumptions/8.md). The instant of an expiry
is notes/assumptions/1.md's. -/
def Obligations.StoreCommitProgramsRecord : Prop :=
  ∀ (s : State) (lock ok : Bool),
    (s.Serving →
      let noted := { s.taken with installLock := lock }
      ((∀ g, s.sto.st ≠ .staged g) → exec (.storeCommit [] lock) s = .next (noted.answer 0x15 0x42#8 [1#8, 0x03#8])) ∧
      ∀ g, s.sto.st = .staged g →
        (g.fields = [] → exec (.storeCommit [] lock) s = .next
          { noted.answer 0x00 0x42#8 [0#8] with sto := { s.sto with st := .idle } }) ∧
        (g.fields ≠ [] → g.record = .install → lock = true →
          exec (.storeCommit [] lock) s = .next (noted.answer 0x12 0x42#8 [])) ∧
        (g.fields ≠ [] → g.record ≠ .install ∨ lock = false →
          let fields := fullFieldSet s.sto.images g
          let programming (time : Nat) : StoreState :=
            .programming { fields := fields, written := g.fields.length, due := s.now + time, thenLoading := false }
          (∀ w, fields = .working w → ∃ t, exec (.storeCommit [] lock) s = .next t ∧
            t = { noted.answer 0x02 0x42#8 [] with sto := { s.sto with st := programming 12, array := t.sto.array } } ∧
            t.sto.array = { s.sto.array with working := { mark := false, check := true, fields := some w } }) ∧
          (∀ k p, fields = .preset k p → ∃ t, exec (.storeCommit [] lock) s = .next t ∧
            t = { noted.answer 0x02 0x42#8 [] with sto := { s.sto with st := programming 10, array := t.sto.array } } ∧
            t.sto.array = { s.sto.array with presets := t.sto.array.presets } ∧
            t.sto.array.presets = s.sto.array.presets.set k ⟨false, true, some p⟩) ∧
          (∀ p, fields = .install p →
            (∀ e, p.check = some e → exec (.storeCommit [] lock) s = .next (noted.answer 0x13 0x42#8 e.bytes)) ∧
            (p.check = none → s.idleForInstall = false →
              exec (.storeCommit [] lock) s = .next (noted.answer 0x10 0x42#8 [])) ∧
            (p.check = none → s.idleForInstall = true → ∃ t, exec (.storeCommit [] lock) s = .next t ∧
              let accepted := noted.answer 0x02 0x42#8 []
              let turned := s.cfg.orientation = .ceiling ∧ t.cfg.orientation = .table
              let composes := t.cfg.orientation ≠ s.cfg.orientation ∨ t.pixelsPerStep ≠ s.pixelsPerStep
              let comp := composeInputs s.geo.keystone s.geo.zoom s.geo.residual (p.axes.map (fun x => x.pixelsPerStep))
              let build : Build :=
                { target := s.scp.live.other
                  snapshot := { comp := comp, keystone := s.geo.keystone, zoom := s.geo.zoom, residual := s.geo.residual
                                pixelsPerStep := p.axes.map (fun x => x.pixelsPerStep), orientation := t.cfg.orientation } }
              let shown := if composes ∧ comp.clipped = true
                then insertEvent (.shiftClipped comp.requested comp.applied) s.hli.queue else s.hli.queue
              t = { accepted with
                    cfg := { s.cfg with params := p, orientation := resolveOrientation p.source s.cfg.strap
                                        defaultsInUse := false }
                    sto := { s.sto with st := programming 36, array :=
                      { s.sto.array with install := { mark := false, check := true, fields := some p } } }
                    tsv := if turned then { s.tsv with recirc := false, entryCount := 0, clearCount := 0 } else s.tsv
                    fan := { s.taken.fan with fans := t.fan.fans }
                    axc := { s.axc with axes := t.axc.axes }
                    geo := if composes then { s.geo with comp := comp } else s.geo
                    mse := { s.mse with build := if composes then some build else none }
                    scp := { s.scp with stateA := t.scp.stateA, stateB := t.scp.stateB }
                    hli := { accepted.hli with queue := shown } } ∧
              (¬ composes → t.scp = s.scp) ∧ (composes → t.scp.stateOf s.scp.live.other = .building ∧
                t.scp.stateOf s.scp.live = s.scp.stateOf s.scp.live) ∧
              (∀ f : FanId,
                let x := s.taken.fanOf f
                let y := t.fanOf f
                let m := (p.fans.get f).minDuty
                let raised (d : Nat) : Nat := if 0 < d ∧ d < m then m else d
                let override := x.override.map (fun d => if m ≠ (s.fanParams f).minDuty ∧ d < m then m else d)
                let source : Option Nat :=
                  if x.st = .kick ∨ (x.st = .failed ∧ s.tsv.regime ≠ .normal) ∨ s.tsv.regime = .emergency then some 1000
                  else if s.tsv.regime = .normal then override else none
                y.override = override ∧ y.kickPrev = raised x.kickPrev ∧ y.stallCount = x.stallCount ∧ y.mismatch = x.mismatch ∧
                (x.st ≠ .test →
                  y.duty = source.getD (if s.tsv.regime = .normal then min (raised x.duty) (t.capLimit f) else raised x.duty))) ∧
              ∀ a : AxisId,
                let x := s.axis a
                let mayRelease := a = .h ∨ p.vSelfLocking = true
                let beyond := match x.pos with
                  | some pos => decide ((p.axes.get a).travelLimit < pos)
                  | none => false
                t.axis a =
                  (if beyond then
                     { x with st := .unreferenced, pos := none, hold := if mayRelease then .released else .reduced
                              holdDue := none, energiseDue := none, motion := none, homing := none }
                   else if a = .h then x
                   else if p.vSelfLocking = false then
                     (if x.hold = .released then { x with hold := .reduced, holdDue := none } else x)
                   else if s.cfg.params.vSelfLocking = true then x
                   else if x.st = .unreferenced ∨ x.st = .fault then { x with hold := .released, holdDue := none }
                   else if x.st = .idle ∧ x.hold = .reduced then
                     { x with holdDue := some (s.now + (p.axes.get a).releaseTime * 1000) }
                   else x))))) ∧
    (s.inReset = false →
      ((∀ p, s.sto.st ≠ .programming p) → exec (.programmingEnd ok) s = .next s) ∧
      ∀ p, s.sto.st = .programming p → ∃ t, exec (.programmingEnd ok) s = .next t ∧
        t = { s with now := max s.now p.due
                     sto := { st := if p.thenLoading then .loading else .idle, array := t.sto.array, images := t.sto.images }
                     hli := { s.hli with queue := insertEvent (.storeDone p.fields.id ok p.written) s.hli.queue } } ∧
        t.sto.images.get p.fields.id = (if ok then some p.fields else none) ∧
        (∀ r, r ≠ p.fields.id → t.sto.images.get r = s.sto.images.get r) ∧
        (∀ i, p.fields = .install i → t.sto.array =
          { s.sto.array with install := { s.sto.array.install with mark := ok } }) ∧
        (∀ w, p.fields = .working w → t.sto.array =
          { s.sto.array with working := { s.sto.array.working with mark := ok } }) ∧
        ∀ k f, p.fields = .preset k f → t.sto.array =
          { s.sto.array with presets := s.sto.array.presets.set k { s.sto.array.presets[k] with mark := ok } })
end

