-- ==== Sys2Proof/Laws/Fields.lean ====
section
/-! SUPPORT. What the value forms of the store field table carry: which bytes each parser takes, and when a written field is one
of the table. -/

namespace Sys2Proof.Machine

/-! ## Numbers -/

theorem parse1_eq_some {v : List Byte} {n : Nat} : parse1 v = some n ↔ n < 256 ∧ v = [BitVec.ofNat 8 n] := by
  constructor
  · intro h
    match v, h with
    | [x], h =>
      obtain rfl := Option.some.inj h
      exact ⟨x.isLt, by simp⟩
  · rintro ⟨h, rfl⟩; simp [parse1, Nat.mod_eq_of_lt h]

theorem word_ofNat {n : Nat} (h : n < 65536) : word (BitVec.ofNat 8 (n / 256)) (BitVec.ofNat 8 n) = n := by
  simp only [word, BitVec.toNat_ofNat]; omega

theorem wordBytes_word (x y : Byte) : wordBytes (word x y) = [x, y] := by
  have hx := x.isLt
  have hy := y.isLt
  simp only [wordBytes, word, List.cons.injEq, and_true]
  constructor <;> apply BitVec.eq_of_toNat_eq <;> simp only [BitVec.toNat_ofNat] <;> omega

theorem word_lt (x y : Byte) : word x y < 65536 := by
  have hx := x.isLt
  have hy := y.isLt
  simp only [word]; omega

/-- A field of two bytes carries each number below 65536, most significant byte first. -/
theorem parse2_eq_some {v : List Byte} {n : Nat} : parse2 v = some n ↔ n < 65536 ∧ v = wordBytes n := by
  constructor
  · intro h
    match v, h with
    | [x, y], h =>
      obtain rfl := Option.some.inj h
      exact ⟨word_lt x y, (wordBytes_word x y).symm⟩
  · rintro ⟨h, rfl⟩; exact congrArg some (word_ofNat h)

theorem signedWord_ofInt {z : Int} (h : -32768 ≤ z ∧ z < 32768) :
    signedWord (BitVec.ofNat 8 ((z % 65536).toNat / 256)) (BitVec.ofNat 8 (z % 65536).toNat) = z := by
  have k : (z % 65536).toNat < 65536 := by omega
  simp only [signedWord, word_ofNat k]; split <;> omega

theorem signedWord_mem (x y : Byte) : -32768 ≤ signedWord x y ∧ signedWord x y < 32768 := by
  have := word_lt x y
  simp only [signedWord]; split <;> omega

theorem signedBytes_signedWord (x y : Byte) : signedBytes (signedWord x y) = [x, y] := by
  have h := word_lt x y
  have k : (signedWord x y % 65536).toNat = word x y := by simp only [signedWord]; split <;> omega
  rw [signedBytes, k, wordBytes_word]

/-- A temperature field carries each signed 16-bit number. -/
theorem parseSigned2_eq_some {v : List Byte} {z : Int} :
    parseSigned2 v = some z ↔ (-32768 ≤ z ∧ z < 32768) ∧ v = signedBytes z := by
  constructor
  · intro h
    match v, h with
    | [x, y], h =>
      obtain rfl := Option.some.inj h
      exact ⟨signedWord_mem x y, (signedBytes_signedWord x y).symm⟩
  · rintro ⟨h, rfl⟩; exact congrArg some (signedWord_ofInt h)

theorem parseSigned1_eq_some {v : List Byte} {z : Int} :
    parseSigned1 v = some z ↔ (-128 ≤ z ∧ z ≤ 127) ∧ v = [BitVec.ofInt 8 z] := by
  constructor
  · intro h
    match v, h with
    | [x], h =>
      obtain rfl := Option.some.inj h
      have := BitVec.toInt_lt (x := x)
      have := BitVec.le_toInt (x := x)
      exact ⟨by omega, by simp⟩
  · rintro ⟨h, rfl⟩
    simp only [parseSigned1, BitVec.toInt_ofInt, Option.some.injEq, Int.bmod_def]; omega

/-! ## Lists -/

/-- Elements of one width: the list they spell, each element parsed, and nothing after them. -/
theorem parseElements_eq_some {α : Type} {width : Nat} {p : List Byte → Option α} {form : α → Prop} {f : α → List Byte}
    (hp : ∀ v a, v.length = width → (p v = some a ↔ form a ∧ v = f a)) (hf : ∀ a, form a → (f a).length = width) :
    ∀ {n : Nat} {v : List Byte} {l : List α},
      parseElements width p n v = some l ↔ l.length = n ∧ (∀ a ∈ l, form a) ∧ v = l.flatMap f := by
  intro n
  induction n with
  | zero =>
    intro v l
    cases v <;> cases l <;> simp [parseElements]
  | succ n ih =>
    intro v l
    simp only [parseElements]
    by_cases short : v.length < width
    · rw [if_pos short]
      refine iff_of_false (by simp) ?_
      rintro ⟨hl, h, rfl⟩
      match l, hl, h, short with
      | a :: l, _, h, short =>
        have := hf a (h a (by simp))
        simp only [List.flatMap_cons, List.length_append] at short; omega
    · rw [if_neg short]
      have hlen : (v.take width).length = width := by rw [List.length_take]; omega
      constructor
      · intro h
        split at h
        · next x xs hx hxs =>
          obtain rfl := Option.some.inj h
          obtain ⟨hform, htake⟩ := (hp _ x hlen).1 hx
          obtain ⟨hl, hall, hdrop⟩ := ih.1 hxs
          refine ⟨by simp [hl], by simpa using ⟨hform, hall⟩, ?_⟩
          rw [List.flatMap_cons, ← htake, ← hdrop, List.take_append_drop]
        · cases h
      · rintro ⟨hl, h, rfl⟩
        match l, hl, h, hlen with
        | a :: l, hl, h, hlen =>
          have ha := h a (by simp)
          have hw := hf a ha
          have ht : ((a :: l).flatMap f).take width = f a := by rw [List.flatMap_cons, ← hw, List.take_left]
          have hd : ((a :: l).flatMap f).drop width = l.flatMap f := by rw [List.flatMap_cons, ← hw, List.drop_left]
          have hx : p (((a :: l).flatMap f).take width) = some a := (hp _ a hlen).2 ⟨ha, ht⟩
          have hxs : parseElements width p n (((a :: l).flatMap f).drop width) = some l :=
            ih.2 ⟨by simpa using hl, fun b hb => h b (by simp [hb]), hd⟩
          simp only [hx, hxs]

/-- A list field carries each list of fewer than 256 elements that have the form. -/
theorem parseList_eq_some {α : Type} {width : Nat} {p : List Byte → Option α} {form : α → Prop} {f : α → List Byte}
    (hp : ∀ v a, v.length = width → (p v = some a ↔ form a ∧ v = f a)) (hf : ∀ a, form a → (f a).length = width)
    {v : List Byte} {l : List α} :
    parseList width p v = some l ↔ (l.length < 256 ∧ ∀ a ∈ l, form a) ∧ v = countedBytes f l := by
  match v with
  | [] => simp [parseList, countedBytes]
  | x :: v =>
    simp only [parseList, parseElements_eq_some hp hf, countedBytes, List.cons.injEq]
    constructor
    · rintro ⟨hl, h, rfl⟩
      exact ⟨⟨hl ▸ x.isLt, h⟩, by simp [hl], rfl⟩
    · rintro ⟨⟨hl, h⟩, rfl, rfl⟩
      exact ⟨by simp [Nat.mod_eq_of_lt hl], h, rfl⟩

/-! ## Fields -/

/-- A field is one of the table where its parser takes exactly the values its form carries, its range admits those of them
that `ok` admits, and a value put is the value read. -/
theorem FieldTaken.of_parse {α : Type} {r : RecordFields} {code index : Nat} {bytes : α → List Byte} {ok form : α → Prop}
    {put : α → RecordFields} {parse : List Byte → Option α} {range : α → Bool}
    (write : ∀ v, r.write code index v = writeField (parse v) range put)
    (parsed : ∀ v a, parse v = some a ↔ form a ∧ v = bytes a)
    (ranged : ∀ a, ok a ↔ form a ∧ range a = true)
    (known : r.read code index ≠ none)
    (back : ∀ a, ok a → (put a).read code index = some (bytes a)) :
    FieldTaken r code index bytes ok put := by
  refine ⟨known, fun a h => ⟨?_, back a h⟩, fun v h => ?_⟩
  · obtain ⟨hform, hrange⟩ := (ranged a).1 h
    rw [write, (parsed _ a).2 ⟨hform, rfl⟩]
    simp [writeField, hrange]
  · rw [write]
    cases hv : parse v with
    | none => rfl
    | some a =>
      obtain ⟨hform, hbytes⟩ := (parsed v a).1 hv
      have hrange : range a = false := by
        cases hr : range a with
        | false => rfl
        | true => exact absurd hbytes (h a ((ranged a).2 ⟨hform, hr⟩))
      simp [writeField, hrange]

/-- What becomes of a record's field, once the record is one of the three. -/
theorem writeField_map {α β γ : Type} (v : Option β) (ok : β → Bool) (put : β → α) (g : α → γ) :
    (writeField v ok put).map g = writeField v ok (fun b => g (put b)) := by
  unfold writeField
  cases v with
  | none => rfl
  | some x => cases h : ok x <;> simp [FieldWrite.map, h]

theorem WordField.of_write {r : RecordFields} {code index low high : Nat} {put : Nat → RecordFields} (fits : high < 65536)
    (write : ∀ v, r.write code index v = writeField (parse2 v) (within low high) put)
    (known : r.read code index ≠ none)
    (back : ∀ n, low ≤ n ∧ n ≤ high → (put n).read code index = some (wordBytes n)) : WordField r code index low high put :=
  FieldTaken.of_parse write (fun _ _ => parse2_eq_some) (by intro a; simp [within]; omega) known back

theorem TempField.of_write {r : RecordFields} {code index : Nat} {low high : Int} {put : Temp → RecordFields}
    (fits : -32768 ≤ low ∧ high < 32768)
    (write : ∀ v, r.write code index v = writeField (parseSigned2 v) (withinTemp low high) put)
    (known : r.read code index ≠ none)
    (back : ∀ z : Int, low ≤ z ∧ z ≤ high → (put z).read code index = some (signedBytes z)) :
    TempField r code index low high put :=
  FieldTaken.of_parse write (fun _ _ => parseSigned2_eq_some) (by intro a; simp [withinTemp]; omega) known back

theorem ListedField.of_write {α : Type} [DecidableEq α] {r : RecordFields} {code index : Nat} {values : List α}
    {put : α → RecordFields} {value : Nat → Option α}
    (write : ∀ v, r.write code index v = writeField ((parse1 v).bind value) (fun _ => true) put)
    (place : ∀ n a, value n = some a ↔ a ∈ values ∧ n = values.idxOf a) (fits : values.length ≤ 256)
    (known : r.read code index ≠ none)
    (back : ∀ a ∈ values, (put a).read code index = some [BitVec.ofNat 8 (values.idxOf a)]) :
    ListedField r code index values put := by
  refine FieldTaken.of_parse (form := fun a => a ∈ values) write (fun v a => ?_) (by simp) known back
  rw [Option.bind_eq_some_iff]
  constructor
  · rintro ⟨n, hn, ha⟩
    obtain ⟨hmem, hplace⟩ := (place n a).1 ha
    exact ⟨hmem, hplace ▸ (parse1_eq_some.1 hn).2⟩
  · rintro ⟨hmem, hv⟩
    have := List.idxOf_lt_length_of_mem hmem
    exact ⟨_, parse1_eq_some.2 ⟨by omega, hv⟩, (place _ a).2 ⟨hmem, rfl⟩⟩

/-! ## Elements of the lists -/

theorem Chan.ofIndex_eq_some {n : Nat} {c : Chan} : Chan.ofIndex n = some c ↔ n = c.index := by
  constructor
  · intro h; unfold Chan.ofIndex at h; split at h <;> first | (obtain rfl := Option.some.inj h; rfl) | cases h
  · rintro rfl; cases c <;> rfl

theorem Chan.index_lt (c : Chan) : c.index < 8 := by cases c <;> decide

theorem parseChan_eq_some {v : List Byte} {c : Chan} : parseChan v = some c ↔ True ∧ v = [BitVec.ofNat 8 c.index] := by
  have := c.index_lt
  unfold parseChan
  rw [Option.bind_eq_some_iff]
  constructor
  · rintro ⟨n, hn, hc⟩
    exact ⟨trivial, Chan.ofIndex_eq_some.1 hc ▸ (parse1_eq_some.1 hn).2⟩
  · rintro ⟨-, hv⟩; exact ⟨_, parse1_eq_some.2 ⟨by omega, hv⟩, Chan.ofIndex_eq_some.2 rfl⟩

theorem parseGoverning_eq_some {v : List Byte} {e : GoverningEntry} :
    parseGoverning v = some e ↔
      (-32768 ≤ e.offset ∧ e.offset < 32768) ∧ v = BitVec.ofNat 8 e.channel.index :: signedBytes e.offset := by
  constructor
  · intro h
    unfold parseGoverning at h
    split at h
    · next c x y =>
      rw [Option.map_eq_some_iff] at h
      obtain ⟨a, ha, rfl⟩ := h
      exact ⟨signedWord_mem x y, by rw [← Chan.ofIndex_eq_some.1 ha, signedBytes_signedWord]; simp⟩
    · cases h
  · rintro ⟨h, rfl⟩
    have := e.channel.index_lt
    simp only [parseGoverning, signedBytes, wordBytes]
    have hc : Chan.ofIndex (BitVec.ofNat 8 e.channel.index).toNat = some e.channel :=
      Chan.ofIndex_eq_some.2 (by simp; omega)
    rw [hc, signedWord_ofInt h]; rfl

theorem parseBreakpoint_eq_some {v : List Byte} {b : Breakpoint} :
    parseBreakpoint v = some b ↔
      ((-32768 ≤ b.temp ∧ b.temp < 32768) ∧ b.duty < 65536) ∧ v = signedBytes b.temp ++ wordBytes b.duty := by
  constructor
  · intro h
    unfold parseBreakpoint at h
    split at h
    · obtain rfl := Option.some.inj h
      exact ⟨⟨signedWord_mem _ _, word_lt _ _⟩, by rw [signedBytes_signedWord, wordBytes_word]; rfl⟩
    · cases h
  · rintro ⟨⟨h, k⟩, rfl⟩
    simp only [parseBreakpoint, signedBytes, wordBytes, List.cons_append, List.nil_append]
    rw [signedWord_ofInt h, word_ofNat k]

theorem eraseDups_eq_self {α : Type} [DecidableEq α] {l : List α} : l.eraseDups = l ↔ l.Nodup := by
  have shorter : ∀ (n : Nat) (l : List α), l.length ≤ n →
      l.eraseDups.length ≤ l.length ∧ (l.eraseDups.length = l.length → l.Nodup) := by
    intro n
    induction n with
    | zero => intro l h; cases l <;> simp_all
    | succ n ih =>
      intro l h
      match l with
      | [] => simp
      | a :: l =>
        have hf := List.length_filter_le (fun b => !b == a) l
        have hi := ih (l.filter (fun b => !b == a)) (by simp at h; omega)
        rw [List.eraseDups_cons]
        refine ⟨by simp; omega, fun hl => ?_⟩
        simp only [List.length_cons] at hl
        have ha := List.length_filter_eq_length_iff.1 (show (l.filter (fun b => !b == a)).length = l.length by omega)
        have hn := hi.2 (by omega)
        rw [List.filter_eq_self.2 ha] at hn
        exact List.nodup_cons.2 ⟨fun hm => by simpa using ha a hm, hn⟩
  refine ⟨fun h => (shorter l.length l (Nat.le_refl _)).2 (by rw [h]), fun h => ?_⟩
  induction l with
  | nil => simp
  | cons a l ih =>
    obtain ⟨ha, hl⟩ := List.nodup_cons.1 h
    have hf : l.filter (fun b => !b == a) = l := List.filter_eq_self.2 (by
      intro b hb
      simp; rintro rfl; exact ha hb)
    rw [List.eraseDups_cons, hf, ih hl]

/-- R7: the derate set is a list of at most four distinct channels. -/
theorem derateSetInRange_iff {l : List Chan} : derateSetInRange l = true ↔ l.length ≤ 4 ∧ l.Nodup := by
  simp only [derateSetInRange, Bool.and_eq_true, beq_iff_eq, eraseDups_eq_self, decide_eq_true_eq]

/-! ## Keystone and preset values -/

theorem Keystone.bytes_eq (k : Keystone) : k.bytes = keystoneBytes k := by cases k <;> rfl

/-- A keystone taken from the front of a value is one of signed 16-bit numbers, with the bytes of the table before the rest. -/
theorem takeKeystone_eq_fits {v rest : List Byte} {k : Keystone} :
    takeKeystone v = .fits k rest ↔
      (match k with
       | .slope kv kh => (-32768 ≤ kv ∧ kv < 32768) ∧ -32768 ≤ kh ∧ kh < 32768
       | .corners tl tr br bl =>
         ∀ c ∈ [tl, tr, br, bl], (-32768 ≤ c.dx ∧ c.dx < 32768) ∧ -32768 ≤ c.dy ∧ c.dy < 32768) ∧
      v = keystoneBytes k ++ rest := by
  have pair (z : Int) :
    signedBytes z = [BitVec.ofNat 8 ((z % 65536).toNat / 256), BitVec.ofNat 8 (z % 65536).toNat] := rfl
  constructor
  · intro h
    unfold takeKeystone at h
    split at h
    · cases h
    · next form r =>
      split at h
      · next hf =>
        obtain rfl : form = 0#8 := BitVec.eq_of_toNat_eq hf
        split at h
        · cases h
          exact ⟨⟨signedWord_mem _ _, signedWord_mem _ _⟩, by simp only [keystoneBytes, signedBytes_signedWord]; rfl⟩
        · cases h
      · split at h
        · next hf =>
          obtain rfl : form = 1#8 := BitVec.eq_of_toNat_eq hf
          split at h
          · cases h
            refine ⟨by simp [signedWord_mem], ?_⟩
            simp only [keystoneBytes, List.flatMap_cons, List.flatMap_nil, signedBytes_signedWord]; rfl
          · cases h
        · cases h
  · rintro ⟨h, rfl⟩
    cases k with
    | slope a b =>
      simp only [keystoneBytes, pair, List.cons_append, List.nil_append, takeKeystone, signedWord_ofInt h.1,
        signedWord_ofInt h.2]; simp
    | corners a b c d =>
      simp at h
      obtain ⟨ha, hb, hc, hd⟩ := h
      simp only [keystoneBytes, pair, List.flatMap_cons, List.flatMap_nil, List.cons_append, List.nil_append, takeKeystone,
        signedWord_ofInt ha.1, signedWord_ofInt ha.2, signedWord_ofInt hb.1, signedWord_ofInt hb.2, signedWord_ofInt hc.1,
        signedWord_ofInt hc.2, signedWord_ofInt hd.1, signedWord_ofInt hd.2]; simp

theorem clampTo_eq_self {low high x : Int} (h : low ≤ high) : clampTo low high x = x ↔ low ≤ x ∧ x ≤ high := by
  unfold clampTo; omega

/-- R176: a keystone is in range where each of its values is. -/
theorem Keystone.inRange_iff {k : Keystone} : k.inRange = true ↔ KeystoneTaken k := by
  unfold Keystone.inRange
  rw [beq_iff_eq]
  cases k with
  | slope a b => simp [KeystoneTaken, Keystone.clamp, clampTo_eq_self]
  | corners a b c d => cases a; cases b; cases c; cases d; simp [KeystoneTaken, Keystone.clamp, Corner.clamp, clampTo_eq_self]

/-- A preset position carries FFFFh for absent, else the number. -/
theorem parsePosition_eq_some {v : List Byte} {x : Option Nat} :
    parsePosition v = some x ↔
      (∀ n, x = some n → n < 65535) ∧ v = (match x with | some n => wordBytes n | none => [0xFF#8, 0xFF#8]) := by
  unfold parsePosition
  rw [Option.map_eq_some_iff]
  constructor
  · rintro ⟨n, hn, h⟩
    obtain ⟨hlt, rfl⟩ := parse2_eq_some.1 hn
    split at h
    · next e => subst h; subst e; exact ⟨by simp, rfl⟩
    · subst h; exact ⟨fun m hm => by cases hm; omega, rfl⟩
  · rintro ⟨h, rfl⟩
    match x, h with
    | some n, h =>
      have := h n rfl
      exact ⟨n, parse2_eq_some.2 ⟨by omega, rfl⟩, if_neg (by omega)⟩
    | none, _ => exact ⟨65535, by decide, by decide⟩

/-- A preset's Tcal carries 8000h for none, else the temperature. -/
theorem parseTcal_eq_some {v : List Byte} {x : Option Int} :
    parseTcal v = some x ↔
      (∀ z, x = some z → -32767 ≤ z ∧ z < 32768) ∧
        v = (match x with | some z => signedBytes z | none => [0x80#8, 0x00#8]) := by
  constructor
  · intro h
    match v, h with
    | [a, b], h =>
      simp only [parseTcal, thermalValue, Option.some.injEq] at h
      have hm := signedWord_mem a b
      split at h
      · next e => subst h; exact ⟨by simp, by rw [← wordBytes_word, e]; rfl⟩
      · next e =>
        subst h
        refine ⟨fun z hz => ?_, (signedBytes_signedWord a b).symm⟩
        cases hz
        have : signedWord a b ≠ -32768 := by
          intro h; apply e; simp only [signedWord] at h; split at h <;> omega
        omega
  · rintro ⟨h, rfl⟩
    match x, h with
    | some z, h =>
      have hz := h z rfl
      have k := signedWord_ofInt (z := z) (by omega)
      simp only [parseTcal, signedBytes, wordBytes, thermalValue, Option.some.injEq]
      rw [if_neg, k]
      intro e; rw [signedWord, e] at k; simp at k; omega
    | none, _ => decide

end Sys2Proof.Machine
end

