-- ==== Sys2Proof/Laws/State.lean ====
section
/-! SUPPORT. The small lemmas of the state's updates: for each update, every field it sets and every field it leaves, true by
definition. -/

namespace Sys2Proof.Machine

variable (s : State)

@[simp] theorem State.clockTo_now (due : Nat) : (s.clockTo due).now = max s.now due := rfl
@[simp] theorem State.clockTo_keeps_inReset (due : Nat) : (s.clockTo due).inReset = s.inReset := rfl
@[simp] theorem State.clockTo_keeps_installLock (due : Nat) : (s.clockTo due).installLock = s.installLock := rfl
@[simp] theorem State.clockTo_keeps_cfg (due : Nat) : (s.clockTo due).cfg = s.cfg := rfl
@[simp] theorem State.clockTo_keeps_sen (due : Nat) : (s.clockTo due).sen = s.sen := rfl
@[simp] theorem State.clockTo_keeps_fan (due : Nat) : (s.clockTo due).fan = s.fan := rfl
@[simp] theorem State.clockTo_keeps_tsv (due : Nat) : (s.clockTo due).tsv = s.tsv := rfl
@[simp] theorem State.clockTo_keeps_lel (due : Nat) : (s.clockTo due).lel = s.lel := rfl
@[simp] theorem State.clockTo_keeps_axc (due : Nat) : (s.clockTo due).axc = s.axc := rfl
@[simp] theorem State.clockTo_keeps_lnc (due : Nat) : (s.clockTo due).lnc = s.lnc := rfl
@[simp] theorem State.clockTo_keeps_geo (due : Nat) : (s.clockTo due).geo = s.geo := rfl
@[simp] theorem State.clockTo_keeps_mse (due : Nat) : (s.clockTo due).mse = s.mse := rfl
@[simp] theorem State.clockTo_keeps_scp (due : Nat) : (s.clockTo due).scp = s.scp := rfl
@[simp] theorem State.clockTo_keeps_sto (due : Nat) : (s.clockTo due).sto = s.sto := rfl
@[simp] theorem State.clockTo_keeps_hli (due : Nat) : (s.clockTo due).hli = s.hli := rfl
@[simp] theorem State.clockTo_keeps_pending (due : Nat) : (s.clockTo due).pending = s.pending := rfl

@[simp] theorem State.raise_hli_queue (e : Event) : (s.raise e).hli.queue = insertEvent e s.hli.queue := rfl
@[simp] theorem State.raise_keeps_now (e : Event) : (s.raise e).now = s.now := rfl
@[simp] theorem State.raise_keeps_inReset (e : Event) : (s.raise e).inReset = s.inReset := rfl
@[simp] theorem State.raise_keeps_installLock (e : Event) : (s.raise e).installLock = s.installLock := rfl
@[simp] theorem State.raise_keeps_cfg (e : Event) : (s.raise e).cfg = s.cfg := rfl
@[simp] theorem State.raise_keeps_sen (e : Event) : (s.raise e).sen = s.sen := rfl
@[simp] theorem State.raise_keeps_fan (e : Event) : (s.raise e).fan = s.fan := rfl
@[simp] theorem State.raise_keeps_tsv (e : Event) : (s.raise e).tsv = s.tsv := rfl
@[simp] theorem State.raise_keeps_lel (e : Event) : (s.raise e).lel = s.lel := rfl
@[simp] theorem State.raise_keeps_axc (e : Event) : (s.raise e).axc = s.axc := rfl
@[simp] theorem State.raise_keeps_lnc (e : Event) : (s.raise e).lnc = s.lnc := rfl
@[simp] theorem State.raise_keeps_geo (e : Event) : (s.raise e).geo = s.geo := rfl
@[simp] theorem State.raise_keeps_mse (e : Event) : (s.raise e).mse = s.mse := rfl
@[simp] theorem State.raise_keeps_scp (e : Event) : (s.raise e).scp = s.scp := rfl
@[simp] theorem State.raise_keeps_sto (e : Event) : (s.raise e).sto = s.sto := rfl
@[simp] theorem State.raise_keeps_hli_response (e : Event) : (s.raise e).hli.response = s.hli.response := rfl
@[simp] theorem State.raise_keeps_hli_line (e : Event) : (s.raise e).hli.line = s.hli.line := rfl
@[simp] theorem State.raise_keeps_hli_sent (e : Event) : (s.raise e).hli.sent = s.hli.sent := rfl
@[simp] theorem State.raise_keeps_hli_ready (e : Event) : (s.raise e).hli.ready = s.hli.ready := rfl
@[simp] theorem State.raise_keeps_hli_rest (e : Event) : (s.raise e).hli.rest = s.hli.rest := rfl
@[simp] theorem State.raise_keeps_pending (e : Event) : (s.raise e).pending = s.pending := rfl

@[simp] theorem State.respondTo_hli_response (k : Byte) (st : Status) (p : List Byte) : (s.respondTo k st p).hli.response = { status := st.code, kind := k, payload := p } := rfl
@[simp] theorem State.respondTo_keeps_now (k : Byte) (st : Status) (p : List Byte) : (s.respondTo k st p).now = s.now := rfl
@[simp] theorem State.respondTo_keeps_inReset (k : Byte) (st : Status) (p : List Byte) : (s.respondTo k st p).inReset = s.inReset := rfl
@[simp] theorem State.respondTo_keeps_installLock (k : Byte) (st : Status) (p : List Byte) : (s.respondTo k st p).installLock = s.installLock := rfl
@[simp] theorem State.respondTo_keeps_cfg (k : Byte) (st : Status) (p : List Byte) : (s.respondTo k st p).cfg = s.cfg := rfl
@[simp] theorem State.respondTo_keeps_sen (k : Byte) (st : Status) (p : List Byte) : (s.respondTo k st p).sen = s.sen := rfl
@[simp] theorem State.respondTo_keeps_fan (k : Byte) (st : Status) (p : List Byte) : (s.respondTo k st p).fan = s.fan := rfl
@[simp] theorem State.respondTo_keeps_tsv (k : Byte) (st : Status) (p : List Byte) : (s.respondTo k st p).tsv = s.tsv := rfl
@[simp] theorem State.respondTo_keeps_lel (k : Byte) (st : Status) (p : List Byte) : (s.respondTo k st p).lel = s.lel := rfl
@[simp] theorem State.respondTo_keeps_axc (k : Byte) (st : Status) (p : List Byte) : (s.respondTo k st p).axc = s.axc := rfl
@[simp] theorem State.respondTo_keeps_lnc (k : Byte) (st : Status) (p : List Byte) : (s.respondTo k st p).lnc = s.lnc := rfl
@[simp] theorem State.respondTo_keeps_geo (k : Byte) (st : Status) (p : List Byte) : (s.respondTo k st p).geo = s.geo := rfl
@[simp] theorem State.respondTo_keeps_mse (k : Byte) (st : Status) (p : List Byte) : (s.respondTo k st p).mse = s.mse := rfl
@[simp] theorem State.respondTo_keeps_scp (k : Byte) (st : Status) (p : List Byte) : (s.respondTo k st p).scp = s.scp := rfl
@[simp] theorem State.respondTo_keeps_sto (k : Byte) (st : Status) (p : List Byte) : (s.respondTo k st p).sto = s.sto := rfl
@[simp] theorem State.respondTo_keeps_hli_line (k : Byte) (st : Status) (p : List Byte) : (s.respondTo k st p).hli.line = s.hli.line := rfl
@[simp] theorem State.respondTo_keeps_hli_sent (k : Byte) (st : Status) (p : List Byte) : (s.respondTo k st p).hli.sent = s.hli.sent := rfl
@[simp] theorem State.respondTo_keeps_hli_queue (k : Byte) (st : Status) (p : List Byte) : (s.respondTo k st p).hli.queue = s.hli.queue := rfl
@[simp] theorem State.respondTo_keeps_hli_ready (k : Byte) (st : Status) (p : List Byte) : (s.respondTo k st p).hli.ready = s.hli.ready := rfl
@[simp] theorem State.respondTo_keeps_hli_rest (k : Byte) (st : Status) (p : List Byte) : (s.respondTo k st p).hli.rest = s.hli.rest := rfl
@[simp] theorem State.respondTo_keeps_pending (k : Byte) (st : Status) (p : List Byte) : (s.respondTo k st p).pending = s.pending := rfl

@[simp] theorem State.respond_hli_response (k : Kind) (st : Status) (p : List Byte) : (s.respond k st p).hli.response = { status := st.code, kind := k.code, payload := p } := rfl
@[simp] theorem State.respond_keeps_now (k : Kind) (st : Status) (p : List Byte) : (s.respond k st p).now = s.now := rfl
@[simp] theorem State.respond_keeps_inReset (k : Kind) (st : Status) (p : List Byte) : (s.respond k st p).inReset = s.inReset := rfl
@[simp] theorem State.respond_keeps_installLock (k : Kind) (st : Status) (p : List Byte) : (s.respond k st p).installLock = s.installLock := rfl
@[simp] theorem State.respond_keeps_cfg (k : Kind) (st : Status) (p : List Byte) : (s.respond k st p).cfg = s.cfg := rfl
@[simp] theorem State.respond_keeps_sen (k : Kind) (st : Status) (p : List Byte) : (s.respond k st p).sen = s.sen := rfl
@[simp] theorem State.respond_keeps_fan (k : Kind) (st : Status) (p : List Byte) : (s.respond k st p).fan = s.fan := rfl
@[simp] theorem State.respond_keeps_tsv (k : Kind) (st : Status) (p : List Byte) : (s.respond k st p).tsv = s.tsv := rfl
@[simp] theorem State.respond_keeps_lel (k : Kind) (st : Status) (p : List Byte) : (s.respond k st p).lel = s.lel := rfl
@[simp] theorem State.respond_keeps_axc (k : Kind) (st : Status) (p : List Byte) : (s.respond k st p).axc = s.axc := rfl
@[simp] theorem State.respond_keeps_lnc (k : Kind) (st : Status) (p : List Byte) : (s.respond k st p).lnc = s.lnc := rfl
@[simp] theorem State.respond_keeps_geo (k : Kind) (st : Status) (p : List Byte) : (s.respond k st p).geo = s.geo := rfl
@[simp] theorem State.respond_keeps_mse (k : Kind) (st : Status) (p : List Byte) : (s.respond k st p).mse = s.mse := rfl
@[simp] theorem State.respond_keeps_scp (k : Kind) (st : Status) (p : List Byte) : (s.respond k st p).scp = s.scp := rfl
@[simp] theorem State.respond_keeps_sto (k : Kind) (st : Status) (p : List Byte) : (s.respond k st p).sto = s.sto := rfl
@[simp] theorem State.respond_keeps_hli_line (k : Kind) (st : Status) (p : List Byte) : (s.respond k st p).hli.line = s.hli.line := rfl
@[simp] theorem State.respond_keeps_hli_sent (k : Kind) (st : Status) (p : List Byte) : (s.respond k st p).hli.sent = s.hli.sent := rfl
@[simp] theorem State.respond_keeps_hli_queue (k : Kind) (st : Status) (p : List Byte) : (s.respond k st p).hli.queue = s.hli.queue := rfl
@[simp] theorem State.respond_keeps_hli_ready (k : Kind) (st : Status) (p : List Byte) : (s.respond k st p).hli.ready = s.hli.ready := rfl
@[simp] theorem State.respond_keeps_hli_rest (k : Kind) (st : Status) (p : List Byte) : (s.respond k st p).hli.rest = s.hli.rest := rfl
@[simp] theorem State.respond_keeps_pending (k : Kind) (st : Status) (p : List Byte) : (s.respond k st p).pending = s.pending := rfl

@[simp] theorem State.refuse_hli_response (k : Kind) (st : Status) (rs : List Reason) : (s.refuse k st rs).hli.response = { status := st.code, kind := k.code, payload := reasonBytes rs } := rfl
@[simp] theorem State.refuse_keeps_now (k : Kind) (st : Status) (rs : List Reason) : (s.refuse k st rs).now = s.now := rfl
@[simp] theorem State.refuse_keeps_inReset (k : Kind) (st : Status) (rs : List Reason) : (s.refuse k st rs).inReset = s.inReset := rfl
@[simp] theorem State.refuse_keeps_installLock (k : Kind) (st : Status) (rs : List Reason) : (s.refuse k st rs).installLock = s.installLock := rfl
@[simp] theorem State.refuse_keeps_cfg (k : Kind) (st : Status) (rs : List Reason) : (s.refuse k st rs).cfg = s.cfg := rfl
@[simp] theorem State.refuse_keeps_sen (k : Kind) (st : Status) (rs : List Reason) : (s.refuse k st rs).sen = s.sen := rfl
@[simp] theorem State.refuse_keeps_fan (k : Kind) (st : Status) (rs : List Reason) : (s.refuse k st rs).fan = s.fan := rfl
@[simp] theorem State.refuse_keeps_tsv (k : Kind) (st : Status) (rs : List Reason) : (s.refuse k st rs).tsv = s.tsv := rfl
@[simp] theorem State.refuse_keeps_lel (k : Kind) (st : Status) (rs : List Reason) : (s.refuse k st rs).lel = s.lel := rfl
@[simp] theorem State.refuse_keeps_axc (k : Kind) (st : Status) (rs : List Reason) : (s.refuse k st rs).axc = s.axc := rfl
@[simp] theorem State.refuse_keeps_lnc (k : Kind) (st : Status) (rs : List Reason) : (s.refuse k st rs).lnc = s.lnc := rfl
@[simp] theorem State.refuse_keeps_geo (k : Kind) (st : Status) (rs : List Reason) : (s.refuse k st rs).geo = s.geo := rfl
@[simp] theorem State.refuse_keeps_mse (k : Kind) (st : Status) (rs : List Reason) : (s.refuse k st rs).mse = s.mse := rfl
@[simp] theorem State.refuse_keeps_scp (k : Kind) (st : Status) (rs : List Reason) : (s.refuse k st rs).scp = s.scp := rfl
@[simp] theorem State.refuse_keeps_sto (k : Kind) (st : Status) (rs : List Reason) : (s.refuse k st rs).sto = s.sto := rfl
@[simp] theorem State.refuse_keeps_hli_line (k : Kind) (st : Status) (rs : List Reason) : (s.refuse k st rs).hli.line = s.hli.line := rfl
@[simp] theorem State.refuse_keeps_hli_sent (k : Kind) (st : Status) (rs : List Reason) : (s.refuse k st rs).hli.sent = s.hli.sent := rfl
@[simp] theorem State.refuse_keeps_hli_queue (k : Kind) (st : Status) (rs : List Reason) : (s.refuse k st rs).hli.queue = s.hli.queue := rfl
@[simp] theorem State.refuse_keeps_hli_ready (k : Kind) (st : Status) (rs : List Reason) : (s.refuse k st rs).hli.ready = s.hli.ready := rfl
@[simp] theorem State.refuse_keeps_hli_rest (k : Kind) (st : Status) (rs : List Reason) : (s.refuse k st rs).hli.rest = s.hli.rest := rfl
@[simp] theorem State.refuse_keeps_pending (k : Kind) (st : Status) (rs : List Reason) : (s.refuse k st rs).pending = s.pending := rfl

@[simp] theorem State.putFan_fan_fans (f : FanId) (x : Fan) : (s.putFan f x).fan.fans = s.fan.fans.set f x := rfl
@[simp] theorem State.putFan_keeps_now (f : FanId) (x : Fan) : (s.putFan f x).now = s.now := rfl
@[simp] theorem State.putFan_keeps_inReset (f : FanId) (x : Fan) : (s.putFan f x).inReset = s.inReset := rfl
@[simp] theorem State.putFan_keeps_installLock (f : FanId) (x : Fan) : (s.putFan f x).installLock = s.installLock := rfl
@[simp] theorem State.putFan_keeps_cfg (f : FanId) (x : Fan) : (s.putFan f x).cfg = s.cfg := rfl
@[simp] theorem State.putFan_keeps_sen (f : FanId) (x : Fan) : (s.putFan f x).sen = s.sen := rfl
@[simp] theorem State.putFan_keeps_fan_profile (f : FanId) (x : Fan) : (s.putFan f x).fan.profile = s.fan.profile := rfl
@[simp] theorem State.putFan_keeps_fan_allowance (f : FanId) (x : Fan) : (s.putFan f x).fan.allowance = s.fan.allowance := rfl
@[simp] theorem State.putFan_keeps_fan_tailDue (f : FanId) (x : Fan) : (s.putFan f x).fan.tailDue = s.fan.tailDue := rfl
@[simp] theorem State.putFan_keeps_fan_test (f : FanId) (x : Fan) : (s.putFan f x).fan.test = s.fan.test := rfl
@[simp] theorem State.putFan_keeps_tsv (f : FanId) (x : Fan) : (s.putFan f x).tsv = s.tsv := rfl
@[simp] theorem State.putFan_keeps_lel (f : FanId) (x : Fan) : (s.putFan f x).lel = s.lel := rfl
@[simp] theorem State.putFan_keeps_axc (f : FanId) (x : Fan) : (s.putFan f x).axc = s.axc := rfl
@[simp] theorem State.putFan_keeps_lnc (f : FanId) (x : Fan) : (s.putFan f x).lnc = s.lnc := rfl
@[simp] theorem State.putFan_keeps_geo (f : FanId) (x : Fan) : (s.putFan f x).geo = s.geo := rfl
@[simp] theorem State.putFan_keeps_mse (f : FanId) (x : Fan) : (s.putFan f x).mse = s.mse := rfl
@[simp] theorem State.putFan_keeps_scp (f : FanId) (x : Fan) : (s.putFan f x).scp = s.scp := rfl
@[simp] theorem State.putFan_keeps_sto (f : FanId) (x : Fan) : (s.putFan f x).sto = s.sto := rfl
@[simp] theorem State.putFan_keeps_hli (f : FanId) (x : Fan) : (s.putFan f x).hli = s.hli := rfl
@[simp] theorem State.putFan_keeps_pending (f : FanId) (x : Fan) : (s.putFan f x).pending = s.pending := rfl

@[simp] theorem State.putTest_fan_test (t : FanTest) : (s.putTest t).fan.test = t := rfl
@[simp] theorem State.putTest_keeps_now (t : FanTest) : (s.putTest t).now = s.now := rfl
@[simp] theorem State.putTest_keeps_inReset (t : FanTest) : (s.putTest t).inReset = s.inReset := rfl
@[simp] theorem State.putTest_keeps_installLock (t : FanTest) : (s.putTest t).installLock = s.installLock := rfl
@[simp] theorem State.putTest_keeps_cfg (t : FanTest) : (s.putTest t).cfg = s.cfg := rfl
@[simp] theorem State.putTest_keeps_sen (t : FanTest) : (s.putTest t).sen = s.sen := rfl
@[simp] theorem State.putTest_keeps_fan_fans (t : FanTest) : (s.putTest t).fan.fans = s.fan.fans := rfl
@[simp] theorem State.putTest_keeps_fan_profile (t : FanTest) : (s.putTest t).fan.profile = s.fan.profile := rfl
@[simp] theorem State.putTest_keeps_fan_allowance (t : FanTest) : (s.putTest t).fan.allowance = s.fan.allowance := rfl
@[simp] theorem State.putTest_keeps_fan_tailDue (t : FanTest) : (s.putTest t).fan.tailDue = s.fan.tailDue := rfl
@[simp] theorem State.putTest_keeps_tsv (t : FanTest) : (s.putTest t).tsv = s.tsv := rfl
@[simp] theorem State.putTest_keeps_lel (t : FanTest) : (s.putTest t).lel = s.lel := rfl
@[simp] theorem State.putTest_keeps_axc (t : FanTest) : (s.putTest t).axc = s.axc := rfl
@[simp] theorem State.putTest_keeps_lnc (t : FanTest) : (s.putTest t).lnc = s.lnc := rfl
@[simp] theorem State.putTest_keeps_geo (t : FanTest) : (s.putTest t).geo = s.geo := rfl
@[simp] theorem State.putTest_keeps_mse (t : FanTest) : (s.putTest t).mse = s.mse := rfl
@[simp] theorem State.putTest_keeps_scp (t : FanTest) : (s.putTest t).scp = s.scp := rfl
@[simp] theorem State.putTest_keeps_sto (t : FanTest) : (s.putTest t).sto = s.sto := rfl
@[simp] theorem State.putTest_keeps_hli (t : FanTest) : (s.putTest t).hli = s.hli := rfl
@[simp] theorem State.putTest_keeps_pending (t : FanTest) : (s.putTest t).pending = s.pending := rfl

@[simp] theorem State.putTestRow_fan_test (f : FanId) (r : TestRow) : (s.putTestRow f r).fan.test = { s.fan.test with rows := s.fan.test.rows.set f r } := rfl
@[simp] theorem State.putTestRow_keeps_now (f : FanId) (r : TestRow) : (s.putTestRow f r).now = s.now := rfl
@[simp] theorem State.putTestRow_keeps_inReset (f : FanId) (r : TestRow) : (s.putTestRow f r).inReset = s.inReset := rfl
@[simp] theorem State.putTestRow_keeps_installLock (f : FanId) (r : TestRow) : (s.putTestRow f r).installLock = s.installLock := rfl
@[simp] theorem State.putTestRow_keeps_cfg (f : FanId) (r : TestRow) : (s.putTestRow f r).cfg = s.cfg := rfl
@[simp] theorem State.putTestRow_keeps_sen (f : FanId) (r : TestRow) : (s.putTestRow f r).sen = s.sen := rfl
@[simp] theorem State.putTestRow_keeps_fan_fans (f : FanId) (r : TestRow) : (s.putTestRow f r).fan.fans = s.fan.fans := rfl
@[simp] theorem State.putTestRow_keeps_fan_profile (f : FanId) (r : TestRow) : (s.putTestRow f r).fan.profile = s.fan.profile := rfl
@[simp] theorem State.putTestRow_keeps_fan_allowance (f : FanId) (r : TestRow) : (s.putTestRow f r).fan.allowance = s.fan.allowance := rfl
@[simp] theorem State.putTestRow_keeps_fan_tailDue (f : FanId) (r : TestRow) : (s.putTestRow f r).fan.tailDue = s.fan.tailDue := rfl
@[simp] theorem State.putTestRow_keeps_tsv (f : FanId) (r : TestRow) : (s.putTestRow f r).tsv = s.tsv := rfl
@[simp] theorem State.putTestRow_keeps_lel (f : FanId) (r : TestRow) : (s.putTestRow f r).lel = s.lel := rfl
@[simp] theorem State.putTestRow_keeps_axc (f : FanId) (r : TestRow) : (s.putTestRow f r).axc = s.axc := rfl
@[simp] theorem State.putTestRow_keeps_lnc (f : FanId) (r : TestRow) : (s.putTestRow f r).lnc = s.lnc := rfl
@[simp] theorem State.putTestRow_keeps_geo (f : FanId) (r : TestRow) : (s.putTestRow f r).geo = s.geo := rfl
@[simp] theorem State.putTestRow_keeps_mse (f : FanId) (r : TestRow) : (s.putTestRow f r).mse = s.mse := rfl
@[simp] theorem State.putTestRow_keeps_scp (f : FanId) (r : TestRow) : (s.putTestRow f r).scp = s.scp := rfl
@[simp] theorem State.putTestRow_keeps_sto (f : FanId) (r : TestRow) : (s.putTestRow f r).sto = s.sto := rfl
@[simp] theorem State.putTestRow_keeps_hli (f : FanId) (r : TestRow) : (s.putTestRow f r).hli = s.hli := rfl
@[simp] theorem State.putTestRow_keeps_pending (f : FanId) (r : TestRow) : (s.putTestRow f r).pending = s.pending := rfl

@[simp] theorem State.putLink_lel (l : LelBlock) : (s.putLink l).lel = l := rfl
@[simp] theorem State.putLink_keeps_now (l : LelBlock) : (s.putLink l).now = s.now := rfl
@[simp] theorem State.putLink_keeps_inReset (l : LelBlock) : (s.putLink l).inReset = s.inReset := rfl
@[simp] theorem State.putLink_keeps_installLock (l : LelBlock) : (s.putLink l).installLock = s.installLock := rfl
@[simp] theorem State.putLink_keeps_cfg (l : LelBlock) : (s.putLink l).cfg = s.cfg := rfl
@[simp] theorem State.putLink_keeps_sen (l : LelBlock) : (s.putLink l).sen = s.sen := rfl
@[simp] theorem State.putLink_keeps_fan (l : LelBlock) : (s.putLink l).fan = s.fan := rfl
@[simp] theorem State.putLink_keeps_tsv (l : LelBlock) : (s.putLink l).tsv = s.tsv := rfl
@[simp] theorem State.putLink_keeps_axc (l : LelBlock) : (s.putLink l).axc = s.axc := rfl
@[simp] theorem State.putLink_keeps_lnc (l : LelBlock) : (s.putLink l).lnc = s.lnc := rfl
@[simp] theorem State.putLink_keeps_geo (l : LelBlock) : (s.putLink l).geo = s.geo := rfl
@[simp] theorem State.putLink_keeps_mse (l : LelBlock) : (s.putLink l).mse = s.mse := rfl
@[simp] theorem State.putLink_keeps_scp (l : LelBlock) : (s.putLink l).scp = s.scp := rfl
@[simp] theorem State.putLink_keeps_sto (l : LelBlock) : (s.putLink l).sto = s.sto := rfl
@[simp] theorem State.putLink_keeps_hli (l : LelBlock) : (s.putLink l).hli = s.hli := rfl
@[simp] theorem State.putLink_keeps_pending (l : LelBlock) : (s.putLink l).pending = s.pending := rfl

@[simp] theorem State.putTsv_tsv (t : TsvBlock) : (s.putTsv t).tsv = t := rfl
@[simp] theorem State.putTsv_keeps_now (t : TsvBlock) : (s.putTsv t).now = s.now := rfl
@[simp] theorem State.putTsv_keeps_inReset (t : TsvBlock) : (s.putTsv t).inReset = s.inReset := rfl
@[simp] theorem State.putTsv_keeps_installLock (t : TsvBlock) : (s.putTsv t).installLock = s.installLock := rfl
@[simp] theorem State.putTsv_keeps_cfg (t : TsvBlock) : (s.putTsv t).cfg = s.cfg := rfl
@[simp] theorem State.putTsv_keeps_sen (t : TsvBlock) : (s.putTsv t).sen = s.sen := rfl
@[simp] theorem State.putTsv_keeps_fan (t : TsvBlock) : (s.putTsv t).fan = s.fan := rfl
@[simp] theorem State.putTsv_keeps_lel (t : TsvBlock) : (s.putTsv t).lel = s.lel := rfl
@[simp] theorem State.putTsv_keeps_axc (t : TsvBlock) : (s.putTsv t).axc = s.axc := rfl
@[simp] theorem State.putTsv_keeps_lnc (t : TsvBlock) : (s.putTsv t).lnc = s.lnc := rfl
@[simp] theorem State.putTsv_keeps_geo (t : TsvBlock) : (s.putTsv t).geo = s.geo := rfl
@[simp] theorem State.putTsv_keeps_mse (t : TsvBlock) : (s.putTsv t).mse = s.mse := rfl
@[simp] theorem State.putTsv_keeps_scp (t : TsvBlock) : (s.putTsv t).scp = s.scp := rfl
@[simp] theorem State.putTsv_keeps_sto (t : TsvBlock) : (s.putTsv t).sto = s.sto := rfl
@[simp] theorem State.putTsv_keeps_hli (t : TsvBlock) : (s.putTsv t).hli = s.hli := rfl
@[simp] theorem State.putTsv_keeps_pending (t : TsvBlock) : (s.putTsv t).pending = s.pending := rfl

@[simp] theorem State.putConditions_axc_forced (forced held : Bool) : (s.putConditions forced held).axc.forced = forced := rfl
@[simp] theorem State.putConditions_axc_held (forced held : Bool) : (s.putConditions forced held).axc.held = held := rfl
@[simp] theorem State.putConditions_keeps_now (forced held : Bool) : (s.putConditions forced held).now = s.now := rfl
@[simp] theorem State.putConditions_keeps_inReset (forced held : Bool) : (s.putConditions forced held).inReset = s.inReset := rfl
@[simp] theorem State.putConditions_keeps_installLock (forced held : Bool) : (s.putConditions forced held).installLock = s.installLock := rfl
@[simp] theorem State.putConditions_keeps_cfg (forced held : Bool) : (s.putConditions forced held).cfg = s.cfg := rfl
@[simp] theorem State.putConditions_keeps_sen (forced held : Bool) : (s.putConditions forced held).sen = s.sen := rfl
@[simp] theorem State.putConditions_keeps_fan (forced held : Bool) : (s.putConditions forced held).fan = s.fan := rfl
@[simp] theorem State.putConditions_keeps_tsv (forced held : Bool) : (s.putConditions forced held).tsv = s.tsv := rfl
@[simp] theorem State.putConditions_keeps_lel (forced held : Bool) : (s.putConditions forced held).lel = s.lel := rfl
@[simp] theorem State.putConditions_keeps_axc_axes (forced held : Bool) : (s.putConditions forced held).axc.axes = s.axc.axes := rfl
@[simp] theorem State.putConditions_keeps_lnc (forced held : Bool) : (s.putConditions forced held).lnc = s.lnc := rfl
@[simp] theorem State.putConditions_keeps_geo (forced held : Bool) : (s.putConditions forced held).geo = s.geo := rfl
@[simp] theorem State.putConditions_keeps_mse (forced held : Bool) : (s.putConditions forced held).mse = s.mse := rfl
@[simp] theorem State.putConditions_keeps_scp (forced held : Bool) : (s.putConditions forced held).scp = s.scp := rfl
@[simp] theorem State.putConditions_keeps_sto (forced held : Bool) : (s.putConditions forced held).sto = s.sto := rfl
@[simp] theorem State.putConditions_keeps_hli (forced held : Bool) : (s.putConditions forced held).hli = s.hli := rfl
@[simp] theorem State.putConditions_keeps_pending (forced held : Bool) : (s.putConditions forced held).pending = s.pending := rfl

@[simp] theorem State.putLens_lnc (l : LncBlock) : (s.putLens l).lnc = l := rfl
@[simp] theorem State.putLens_keeps_now (l : LncBlock) : (s.putLens l).now = s.now := rfl
@[simp] theorem State.putLens_keeps_inReset (l : LncBlock) : (s.putLens l).inReset = s.inReset := rfl
@[simp] theorem State.putLens_keeps_installLock (l : LncBlock) : (s.putLens l).installLock = s.installLock := rfl
@[simp] theorem State.putLens_keeps_cfg (l : LncBlock) : (s.putLens l).cfg = s.cfg := rfl
@[simp] theorem State.putLens_keeps_sen (l : LncBlock) : (s.putLens l).sen = s.sen := rfl
@[simp] theorem State.putLens_keeps_fan (l : LncBlock) : (s.putLens l).fan = s.fan := rfl
@[simp] theorem State.putLens_keeps_tsv (l : LncBlock) : (s.putLens l).tsv = s.tsv := rfl
@[simp] theorem State.putLens_keeps_lel (l : LncBlock) : (s.putLens l).lel = s.lel := rfl
@[simp] theorem State.putLens_keeps_axc (l : LncBlock) : (s.putLens l).axc = s.axc := rfl
@[simp] theorem State.putLens_keeps_geo (l : LncBlock) : (s.putLens l).geo = s.geo := rfl
@[simp] theorem State.putLens_keeps_mse (l : LncBlock) : (s.putLens l).mse = s.mse := rfl
@[simp] theorem State.putLens_keeps_scp (l : LncBlock) : (s.putLens l).scp = s.scp := rfl
@[simp] theorem State.putLens_keeps_sto (l : LncBlock) : (s.putLens l).sto = s.sto := rfl
@[simp] theorem State.putLens_keeps_hli (l : LncBlock) : (s.putLens l).hli = s.hli := rfl
@[simp] theorem State.putLens_keeps_pending (l : LncBlock) : (s.putLens l).pending = s.pending := rfl

@[simp] theorem State.putChannel_sen_channels (c : Chan) (x : Channel) : (s.putChannel c x).sen.channels = s.sen.channels.set c x := rfl
@[simp] theorem State.putChannel_sen_lastSample (c : Chan) (x : Channel) : (s.putChannel c x).sen.lastSample = s.sen.lastSample := rfl
@[simp] theorem State.putChannel_keeps_now (c : Chan) (x : Channel) : (s.putChannel c x).now = s.now := rfl
@[simp] theorem State.putChannel_keeps_inReset (c : Chan) (x : Channel) : (s.putChannel c x).inReset = s.inReset := rfl
@[simp] theorem State.putChannel_keeps_installLock (c : Chan) (x : Channel) : (s.putChannel c x).installLock = s.installLock := rfl
@[simp] theorem State.putChannel_keeps_cfg (c : Chan) (x : Channel) : (s.putChannel c x).cfg = s.cfg := rfl
@[simp] theorem State.putChannel_keeps_fan (c : Chan) (x : Channel) : (s.putChannel c x).fan = s.fan := rfl
@[simp] theorem State.putChannel_keeps_tsv (c : Chan) (x : Channel) : (s.putChannel c x).tsv = s.tsv := rfl
@[simp] theorem State.putChannel_keeps_lel (c : Chan) (x : Channel) : (s.putChannel c x).lel = s.lel := rfl
@[simp] theorem State.putChannel_keeps_axc (c : Chan) (x : Channel) : (s.putChannel c x).axc = s.axc := rfl
@[simp] theorem State.putChannel_keeps_lnc (c : Chan) (x : Channel) : (s.putChannel c x).lnc = s.lnc := rfl
@[simp] theorem State.putChannel_keeps_geo (c : Chan) (x : Channel) : (s.putChannel c x).geo = s.geo := rfl
@[simp] theorem State.putChannel_keeps_mse (c : Chan) (x : Channel) : (s.putChannel c x).mse = s.mse := rfl
@[simp] theorem State.putChannel_keeps_scp (c : Chan) (x : Channel) : (s.putChannel c x).scp = s.scp := rfl
@[simp] theorem State.putChannel_keeps_sto (c : Chan) (x : Channel) : (s.putChannel c x).sto = s.sto := rfl
@[simp] theorem State.putChannel_keeps_hli (c : Chan) (x : Channel) : (s.putChannel c x).hli = s.hli := rfl
@[simp] theorem State.putChannel_keeps_pending (c : Chan) (x : Channel) : (s.putChannel c x).pending = s.pending := rfl

@[simp] theorem State.putStore_sto (st : StoreState) : (s.putStore st).sto = { s.sto with st := st } := rfl
@[simp] theorem State.putStore_keeps_now (st : StoreState) : (s.putStore st).now = s.now := rfl
@[simp] theorem State.putStore_keeps_inReset (st : StoreState) : (s.putStore st).inReset = s.inReset := rfl
@[simp] theorem State.putStore_keeps_installLock (st : StoreState) : (s.putStore st).installLock = s.installLock := rfl
@[simp] theorem State.putStore_keeps_cfg (st : StoreState) : (s.putStore st).cfg = s.cfg := rfl
@[simp] theorem State.putStore_keeps_sen (st : StoreState) : (s.putStore st).sen = s.sen := rfl
@[simp] theorem State.putStore_keeps_fan (st : StoreState) : (s.putStore st).fan = s.fan := rfl
@[simp] theorem State.putStore_keeps_tsv (st : StoreState) : (s.putStore st).tsv = s.tsv := rfl
@[simp] theorem State.putStore_keeps_lel (st : StoreState) : (s.putStore st).lel = s.lel := rfl
@[simp] theorem State.putStore_keeps_axc (st : StoreState) : (s.putStore st).axc = s.axc := rfl
@[simp] theorem State.putStore_keeps_lnc (st : StoreState) : (s.putStore st).lnc = s.lnc := rfl
@[simp] theorem State.putStore_keeps_geo (st : StoreState) : (s.putStore st).geo = s.geo := rfl
@[simp] theorem State.putStore_keeps_mse (st : StoreState) : (s.putStore st).mse = s.mse := rfl
@[simp] theorem State.putStore_keeps_scp (st : StoreState) : (s.putStore st).scp = s.scp := rfl
@[simp] theorem State.putStore_keeps_hli (st : StoreState) : (s.putStore st).hli = s.hli := rfl
@[simp] theorem State.putStore_keeps_pending (st : StoreState) : (s.putStore st).pending = s.pending := rfl

@[simp] theorem State.putScaler_scp (p : ScpBlock) : (s.putScaler p).scp = p := rfl
@[simp] theorem State.putScaler_keeps_now (p : ScpBlock) : (s.putScaler p).now = s.now := rfl
@[simp] theorem State.putScaler_keeps_inReset (p : ScpBlock) : (s.putScaler p).inReset = s.inReset := rfl
@[simp] theorem State.putScaler_keeps_installLock (p : ScpBlock) : (s.putScaler p).installLock = s.installLock := rfl
@[simp] theorem State.putScaler_keeps_cfg (p : ScpBlock) : (s.putScaler p).cfg = s.cfg := rfl
@[simp] theorem State.putScaler_keeps_sen (p : ScpBlock) : (s.putScaler p).sen = s.sen := rfl
@[simp] theorem State.putScaler_keeps_fan (p : ScpBlock) : (s.putScaler p).fan = s.fan := rfl
@[simp] theorem State.putScaler_keeps_tsv (p : ScpBlock) : (s.putScaler p).tsv = s.tsv := rfl
@[simp] theorem State.putScaler_keeps_lel (p : ScpBlock) : (s.putScaler p).lel = s.lel := rfl
@[simp] theorem State.putScaler_keeps_axc (p : ScpBlock) : (s.putScaler p).axc = s.axc := rfl
@[simp] theorem State.putScaler_keeps_lnc (p : ScpBlock) : (s.putScaler p).lnc = s.lnc := rfl
@[simp] theorem State.putScaler_keeps_geo (p : ScpBlock) : (s.putScaler p).geo = s.geo := rfl
@[simp] theorem State.putScaler_keeps_mse (p : ScpBlock) : (s.putScaler p).mse = s.mse := rfl
@[simp] theorem State.putScaler_keeps_sto (p : ScpBlock) : (s.putScaler p).sto = s.sto := rfl
@[simp] theorem State.putScaler_keeps_hli (p : ScpBlock) : (s.putScaler p).hli = s.hli := rfl
@[simp] theorem State.putScaler_keeps_pending (p : ScpBlock) : (s.putScaler p).pending = s.pending := rfl

@[simp] theorem State.putHost_hli (h : HliBlock) : (s.putHost h).hli = h := rfl
@[simp] theorem State.putHost_keeps_now (h : HliBlock) : (s.putHost h).now = s.now := rfl
@[simp] theorem State.putHost_keeps_inReset (h : HliBlock) : (s.putHost h).inReset = s.inReset := rfl
@[simp] theorem State.putHost_keeps_installLock (h : HliBlock) : (s.putHost h).installLock = s.installLock := rfl
@[simp] theorem State.putHost_keeps_cfg (h : HliBlock) : (s.putHost h).cfg = s.cfg := rfl
@[simp] theorem State.putHost_keeps_sen (h : HliBlock) : (s.putHost h).sen = s.sen := rfl
@[simp] theorem State.putHost_keeps_fan (h : HliBlock) : (s.putHost h).fan = s.fan := rfl
@[simp] theorem State.putHost_keeps_tsv (h : HliBlock) : (s.putHost h).tsv = s.tsv := rfl
@[simp] theorem State.putHost_keeps_lel (h : HliBlock) : (s.putHost h).lel = s.lel := rfl
@[simp] theorem State.putHost_keeps_axc (h : HliBlock) : (s.putHost h).axc = s.axc := rfl
@[simp] theorem State.putHost_keeps_lnc (h : HliBlock) : (s.putHost h).lnc = s.lnc := rfl
@[simp] theorem State.putHost_keeps_geo (h : HliBlock) : (s.putHost h).geo = s.geo := rfl
@[simp] theorem State.putHost_keeps_mse (h : HliBlock) : (s.putHost h).mse = s.mse := rfl
@[simp] theorem State.putHost_keeps_scp (h : HliBlock) : (s.putHost h).scp = s.scp := rfl
@[simp] theorem State.putHost_keeps_sto (h : HliBlock) : (s.putHost h).sto = s.sto := rfl
@[simp] theorem State.putHost_keeps_pending (h : HliBlock) : (s.putHost h).pending = s.pending := rfl

@[simp] theorem State.lineIdle_hli_line : s.lineIdle.hli.line = .idle := rfl
@[simp] theorem State.lineIdle_keeps_now : s.lineIdle.now = s.now := rfl
@[simp] theorem State.lineIdle_keeps_inReset : s.lineIdle.inReset = s.inReset := rfl
@[simp] theorem State.lineIdle_keeps_installLock : s.lineIdle.installLock = s.installLock := rfl
@[simp] theorem State.lineIdle_keeps_cfg : s.lineIdle.cfg = s.cfg := rfl
@[simp] theorem State.lineIdle_keeps_sen : s.lineIdle.sen = s.sen := rfl
@[simp] theorem State.lineIdle_keeps_fan : s.lineIdle.fan = s.fan := rfl
@[simp] theorem State.lineIdle_keeps_tsv : s.lineIdle.tsv = s.tsv := rfl
@[simp] theorem State.lineIdle_keeps_lel : s.lineIdle.lel = s.lel := rfl
@[simp] theorem State.lineIdle_keeps_axc : s.lineIdle.axc = s.axc := rfl
@[simp] theorem State.lineIdle_keeps_lnc : s.lineIdle.lnc = s.lnc := rfl
@[simp] theorem State.lineIdle_keeps_geo : s.lineIdle.geo = s.geo := rfl
@[simp] theorem State.lineIdle_keeps_mse : s.lineIdle.mse = s.mse := rfl
@[simp] theorem State.lineIdle_keeps_scp : s.lineIdle.scp = s.scp := rfl
@[simp] theorem State.lineIdle_keeps_sto : s.lineIdle.sto = s.sto := rfl
@[simp] theorem State.lineIdle_keeps_hli_response : s.lineIdle.hli.response = s.hli.response := rfl
@[simp] theorem State.lineIdle_keeps_hli_sent : s.lineIdle.hli.sent = s.hli.sent := rfl
@[simp] theorem State.lineIdle_keeps_hli_queue : s.lineIdle.hli.queue = s.hli.queue := rfl
@[simp] theorem State.lineIdle_keeps_hli_ready : s.lineIdle.hli.ready = s.hli.ready := rfl
@[simp] theorem State.lineIdle_keeps_hli_rest : s.lineIdle.hli.rest = s.hli.rest := rfl
@[simp] theorem State.lineIdle_keeps_pending : s.lineIdle.pending = s.pending := rfl

@[simp] theorem State.noteLock_installLock (lock : Bool) : (s.noteLock lock).installLock = lock := rfl
@[simp] theorem State.noteLock_keeps_now (lock : Bool) : (s.noteLock lock).now = s.now := rfl
@[simp] theorem State.noteLock_keeps_inReset (lock : Bool) : (s.noteLock lock).inReset = s.inReset := rfl
@[simp] theorem State.noteLock_keeps_cfg (lock : Bool) : (s.noteLock lock).cfg = s.cfg := rfl
@[simp] theorem State.noteLock_keeps_sen (lock : Bool) : (s.noteLock lock).sen = s.sen := rfl
@[simp] theorem State.noteLock_keeps_fan (lock : Bool) : (s.noteLock lock).fan = s.fan := rfl
@[simp] theorem State.noteLock_keeps_tsv (lock : Bool) : (s.noteLock lock).tsv = s.tsv := rfl
@[simp] theorem State.noteLock_keeps_lel (lock : Bool) : (s.noteLock lock).lel = s.lel := rfl
@[simp] theorem State.noteLock_keeps_axc (lock : Bool) : (s.noteLock lock).axc = s.axc := rfl
@[simp] theorem State.noteLock_keeps_lnc (lock : Bool) : (s.noteLock lock).lnc = s.lnc := rfl
@[simp] theorem State.noteLock_keeps_geo (lock : Bool) : (s.noteLock lock).geo = s.geo := rfl
@[simp] theorem State.noteLock_keeps_mse (lock : Bool) : (s.noteLock lock).mse = s.mse := rfl
@[simp] theorem State.noteLock_keeps_scp (lock : Bool) : (s.noteLock lock).scp = s.scp := rfl
@[simp] theorem State.noteLock_keeps_sto (lock : Bool) : (s.noteLock lock).sto = s.sto := rfl
@[simp] theorem State.noteLock_keeps_hli (lock : Bool) : (s.noteLock lock).hli = s.hli := rfl
@[simp] theorem State.noteLock_keeps_pending (lock : Bool) : (s.noteLock lock).pending = s.pending := rfl

end Sys2Proof.Machine
end

