-- ==== Sys2Proof/Laws/Frames.lean ====
section
/-! SUPPORT. The frames of the shared operations: for each, the fields of the state that it leaves as they are. A claim about a
command cites these and unfolds no operation. -/

namespace Sys2Proof.Machine

/-! ## Fans -/

@[simp] theorem State.commandFan_frame (f : FanId) (d : Nat) (s : State) :
      (s.commandFan f d).now = s.now ∧ (s.commandFan f d).inReset = s.inReset ∧
      (s.commandFan f d).installLock = s.installLock ∧ (s.commandFan f d).cfg = s.cfg ∧
      (s.commandFan f d).sen = s.sen ∧ (s.commandFan f d).fan.profile = s.fan.profile ∧
      (s.commandFan f d).fan.allowance = s.fan.allowance ∧ (s.commandFan f d).fan.tailDue = s.fan.tailDue ∧
      (s.commandFan f d).fan.test = s.fan.test ∧ (s.commandFan f d).tsv = s.tsv ∧
      (s.commandFan f d).lel = s.lel ∧ (s.commandFan f d).axc = s.axc ∧ (s.commandFan f d).lnc = s.lnc ∧
      (s.commandFan f d).geo = s.geo ∧ (s.commandFan f d).mse = s.mse ∧ (s.commandFan f d).scp = s.scp ∧
      (s.commandFan f d).sto = s.sto ∧ (s.commandFan f d).hli = s.hli ∧
      (s.commandFan f d).pending = s.pending := by
  simp only [State.commandFan]; simp

@[simp] theorem State.lowerFan_frame (f : FanId) (s : State) :
      (s.lowerFan f).now = s.now ∧ (s.lowerFan f).inReset = s.inReset ∧
      (s.lowerFan f).installLock = s.installLock ∧ (s.lowerFan f).cfg = s.cfg ∧ (s.lowerFan f).sen = s.sen ∧
      (s.lowerFan f).fan.profile = s.fan.profile ∧ (s.lowerFan f).fan.allowance = s.fan.allowance ∧
      (s.lowerFan f).fan.tailDue = s.fan.tailDue ∧ (s.lowerFan f).fan.test = s.fan.test ∧
      (s.lowerFan f).tsv = s.tsv ∧ (s.lowerFan f).lel = s.lel ∧ (s.lowerFan f).axc = s.axc ∧
      (s.lowerFan f).lnc = s.lnc ∧ (s.lowerFan f).geo = s.geo ∧ (s.lowerFan f).mse = s.mse ∧
      (s.lowerFan f).scp = s.scp ∧ (s.lowerFan f).sto = s.sto ∧ (s.lowerFan f).hli = s.hli ∧
      (s.lowerFan f).pending = s.pending := by
  simp only [State.lowerFan]; (repeat' split) <;> simp

@[simp] theorem State.lowerToCaps_frame (s : State) :
      s.lowerToCaps.now = s.now ∧ s.lowerToCaps.inReset = s.inReset ∧
      s.lowerToCaps.installLock = s.installLock ∧ s.lowerToCaps.cfg = s.cfg ∧ s.lowerToCaps.sen = s.sen ∧
      s.lowerToCaps.fan.profile = s.fan.profile ∧ s.lowerToCaps.fan.allowance = s.fan.allowance ∧
      s.lowerToCaps.fan.tailDue = s.fan.tailDue ∧ s.lowerToCaps.fan.test = s.fan.test ∧
      s.lowerToCaps.tsv = s.tsv ∧ s.lowerToCaps.lel = s.lel ∧ s.lowerToCaps.axc = s.axc ∧
      s.lowerToCaps.lnc = s.lnc ∧ s.lowerToCaps.geo = s.geo ∧ s.lowerToCaps.mse = s.mse ∧
      s.lowerToCaps.scp = s.scp ∧ s.lowerToCaps.sto = s.sto ∧ s.lowerToCaps.hli = s.hli ∧
      s.lowerToCaps.pending = s.pending := by
  simp only [State.lowerToCaps, State.eachFan, FanId.list, List.foldl]; simp

@[simp] theorem State.chainFan_frame (r : Bool) (f : FanId) (s : State) :
      (s.chainFan r f).now = s.now ∧ (s.chainFan r f).inReset = s.inReset ∧
      (s.chainFan r f).installLock = s.installLock ∧ (s.chainFan r f).cfg = s.cfg ∧
      (s.chainFan r f).sen = s.sen ∧ (s.chainFan r f).fan.profile = s.fan.profile ∧
      (s.chainFan r f).fan.allowance = s.fan.allowance ∧ (s.chainFan r f).fan.tailDue = s.fan.tailDue ∧
      (s.chainFan r f).fan.test = s.fan.test ∧ (s.chainFan r f).tsv = s.tsv ∧ (s.chainFan r f).lel = s.lel ∧
      (s.chainFan r f).axc = s.axc ∧ (s.chainFan r f).lnc = s.lnc ∧ (s.chainFan r f).geo = s.geo ∧
      (s.chainFan r f).mse = s.mse ∧ (s.chainFan r f).scp = s.scp ∧ (s.chainFan r f).sto = s.sto ∧
      (s.chainFan r f).hli = s.hli ∧ (s.chainFan r f).pending = s.pending := by
  simp only [State.chainFan]; (repeat' split) <;> simp

@[simp] theorem State.dutyChain_frame (r : Bool) (s : State) :
      (s.dutyChain r).now = s.now ∧ (s.dutyChain r).inReset = s.inReset ∧
      (s.dutyChain r).installLock = s.installLock ∧ (s.dutyChain r).cfg = s.cfg ∧ (s.dutyChain r).sen = s.sen ∧
      (s.dutyChain r).fan.profile = s.fan.profile ∧ (s.dutyChain r).fan.allowance = s.fan.allowance ∧
      (s.dutyChain r).fan.tailDue = s.fan.tailDue ∧ (s.dutyChain r).fan.test = s.fan.test ∧
      (s.dutyChain r).tsv = s.tsv ∧ (s.dutyChain r).lel = s.lel ∧ (s.dutyChain r).axc = s.axc ∧
      (s.dutyChain r).lnc = s.lnc ∧ (s.dutyChain r).geo = s.geo ∧ (s.dutyChain r).mse = s.mse ∧
      (s.dutyChain r).scp = s.scp ∧ (s.dutyChain r).sto = s.sto ∧ (s.dutyChain r).hli = s.hli ∧
      (s.dutyChain r).pending = s.pending := by
  simp only [State.dutyChain, State.eachFan, FanId.list, List.foldl]; simp

@[simp] theorem State.fanChecks_frame (s : State) :
      s.fanChecks.now = s.now ∧ s.fanChecks.inReset = s.inReset ∧ s.fanChecks.installLock = s.installLock ∧
      s.fanChecks.cfg = s.cfg ∧ s.fanChecks.sen = s.sen ∧ s.fanChecks.fan.profile = s.fan.profile ∧
      s.fanChecks.fan.allowance = s.fan.allowance ∧ s.fanChecks.fan.tailDue = s.fan.tailDue ∧
      s.fanChecks.fan.test = s.fan.test ∧ s.fanChecks.tsv = s.tsv ∧ s.fanChecks.lel = s.lel ∧
      s.fanChecks.axc = s.axc ∧ s.fanChecks.lnc = s.lnc ∧ s.fanChecks.geo = s.geo ∧ s.fanChecks.mse = s.mse ∧
      s.fanChecks.scp = s.scp ∧ s.fanChecks.sto = s.sto ∧ s.fanChecks.hli = s.hli ∧
      s.fanChecks.pending = s.pending := by
  simp only [State.fanChecks]; simp

@[simp] theorem State.openFanPeriods_frame (s : State) :
      s.openFanPeriods.now = s.now ∧ s.openFanPeriods.inReset = s.inReset ∧
      s.openFanPeriods.installLock = s.installLock ∧ s.openFanPeriods.cfg = s.cfg ∧
      s.openFanPeriods.sen = s.sen ∧ s.openFanPeriods.fan.profile = s.fan.profile ∧
      s.openFanPeriods.fan.allowance = s.fan.allowance ∧ s.openFanPeriods.fan.tailDue = s.fan.tailDue ∧
      s.openFanPeriods.fan.test = s.fan.test ∧ s.openFanPeriods.tsv = s.tsv ∧ s.openFanPeriods.lel = s.lel ∧
      s.openFanPeriods.axc = s.axc ∧ s.openFanPeriods.lnc = s.lnc ∧ s.openFanPeriods.geo = s.geo ∧
      s.openFanPeriods.mse = s.mse ∧ s.openFanPeriods.scp = s.scp ∧ s.openFanPeriods.sto = s.sto ∧
      s.openFanPeriods.hli = s.hli ∧ s.openFanPeriods.pending = s.pending := by
  simp only [State.openFanPeriods]; simp

@[simp] theorem State.spinupEnds_frame (f : FanId) (s : State) :
      (s.spinupEnds f).now = s.now ∧ (s.spinupEnds f).inReset = s.inReset ∧
      (s.spinupEnds f).installLock = s.installLock ∧ (s.spinupEnds f).cfg = s.cfg ∧
      (s.spinupEnds f).sen = s.sen ∧ (s.spinupEnds f).fan.profile = s.fan.profile ∧
      (s.spinupEnds f).fan.allowance = s.fan.allowance ∧ (s.spinupEnds f).fan.tailDue = s.fan.tailDue ∧
      (s.spinupEnds f).fan.test = s.fan.test ∧ (s.spinupEnds f).tsv = s.tsv ∧ (s.spinupEnds f).lel = s.lel ∧
      (s.spinupEnds f).axc = s.axc ∧ (s.spinupEnds f).lnc = s.lnc ∧ (s.spinupEnds f).geo = s.geo ∧
      (s.spinupEnds f).mse = s.mse ∧ (s.spinupEnds f).scp = s.scp ∧ (s.spinupEnds f).sto = s.sto ∧
      (s.spinupEnds f).hli.response = s.hli.response ∧ (s.spinupEnds f).hli.line = s.hli.line ∧
      (s.spinupEnds f).hli.sent = s.hli.sent ∧ (s.spinupEnds f).hli.ready = s.hli.ready ∧
      (s.spinupEnds f).hli.rest = s.hli.rest ∧ (s.spinupEnds f).pending = s.pending := by
  simp only [State.spinupEnds]; (repeat' split) <;> simp

@[simp] theorem State.kickEnds_frame (f : FanId) (s : State) :
      (s.kickEnds f).now = s.now ∧ (s.kickEnds f).inReset = s.inReset ∧
      (s.kickEnds f).installLock = s.installLock ∧ (s.kickEnds f).cfg = s.cfg ∧ (s.kickEnds f).sen = s.sen ∧
      (s.kickEnds f).fan.profile = s.fan.profile ∧ (s.kickEnds f).fan.allowance = s.fan.allowance ∧
      (s.kickEnds f).fan.tailDue = s.fan.tailDue ∧ (s.kickEnds f).fan.test = s.fan.test ∧
      (s.kickEnds f).tsv = s.tsv ∧ (s.kickEnds f).lel = s.lel ∧ (s.kickEnds f).axc = s.axc ∧
      (s.kickEnds f).lnc = s.lnc ∧ (s.kickEnds f).geo = s.geo ∧ (s.kickEnds f).mse = s.mse ∧
      (s.kickEnds f).scp = s.scp ∧ (s.kickEnds f).sto = s.sto ∧ (s.kickEnds f).hli = s.hli ∧
      (s.kickEnds f).pending = s.pending := by
  simp only [State.kickEnds]; simp

@[simp] theorem State.motionEntered_frame (s : State) :
      s.motionEntered.now = s.now ∧ s.motionEntered.inReset = s.inReset ∧
      s.motionEntered.installLock = s.installLock ∧ s.motionEntered.cfg = s.cfg ∧ s.motionEntered.sen = s.sen ∧
      s.motionEntered.fan.fans = s.fan.fans ∧ s.motionEntered.fan.profile = s.fan.profile ∧
      s.motionEntered.fan.test = s.fan.test ∧ s.motionEntered.tsv = s.tsv ∧ s.motionEntered.lel = s.lel ∧
      s.motionEntered.axc = s.axc ∧ s.motionEntered.lnc = s.lnc ∧ s.motionEntered.geo = s.geo ∧
      s.motionEntered.mse = s.mse ∧ s.motionEntered.scp = s.scp ∧ s.motionEntered.sto = s.sto ∧
      s.motionEntered.hli = s.hli ∧ s.motionEntered.pending = s.pending := by
  simp only [State.motionEntered]; simp

@[simp] theorem State.motionLeft_frame (s : State) :
      s.motionLeft.now = s.now ∧ s.motionLeft.inReset = s.inReset ∧ s.motionLeft.installLock = s.installLock ∧
      s.motionLeft.cfg = s.cfg ∧ s.motionLeft.sen = s.sen ∧ s.motionLeft.fan.fans = s.fan.fans ∧
      s.motionLeft.fan.profile = s.fan.profile ∧ s.motionLeft.fan.test = s.fan.test ∧
      s.motionLeft.tsv = s.tsv ∧ s.motionLeft.lel = s.lel ∧ s.motionLeft.axc = s.axc ∧
      s.motionLeft.lnc = s.lnc ∧ s.motionLeft.geo = s.geo ∧ s.motionLeft.mse = s.mse ∧
      s.motionLeft.scp = s.scp ∧ s.motionLeft.sto = s.sto ∧ s.motionLeft.hli = s.hli ∧
      s.motionLeft.pending = s.pending := by
  simp only [State.motionLeft]; (repeat' split) <;> simp

@[simp] theorem State.tailEnds_frame (s : State) :
      s.tailEnds.now = s.now ∧ s.tailEnds.inReset = s.inReset ∧ s.tailEnds.installLock = s.installLock ∧
      s.tailEnds.cfg = s.cfg ∧ s.tailEnds.sen = s.sen ∧ s.tailEnds.fan.profile = s.fan.profile ∧
      s.tailEnds.fan.test = s.fan.test ∧ s.tailEnds.tsv = s.tsv ∧ s.tailEnds.lel = s.lel ∧
      s.tailEnds.axc = s.axc ∧ s.tailEnds.lnc = s.lnc ∧ s.tailEnds.geo = s.geo ∧ s.tailEnds.mse = s.mse ∧
      s.tailEnds.scp = s.scp ∧ s.tailEnds.sto = s.sto ∧ s.tailEnds.hli = s.hli ∧
      s.tailEnds.pending = s.pending := by
  simp only [State.tailEnds]; simp

@[simp] theorem State.enterTest_frame (f : FanId) (s : State) :
      (s.enterTest f).now = s.now ∧ (s.enterTest f).inReset = s.inReset ∧
      (s.enterTest f).installLock = s.installLock ∧ (s.enterTest f).cfg = s.cfg ∧ (s.enterTest f).sen = s.sen ∧
      (s.enterTest f).fan.profile = s.fan.profile ∧ (s.enterTest f).fan.allowance = s.fan.allowance ∧
      (s.enterTest f).fan.tailDue = s.fan.tailDue ∧ (s.enterTest f).tsv = s.tsv ∧ (s.enterTest f).lel = s.lel ∧
      (s.enterTest f).axc = s.axc ∧ (s.enterTest f).lnc = s.lnc ∧ (s.enterTest f).geo = s.geo ∧
      (s.enterTest f).mse = s.mse ∧ (s.enterTest f).scp = s.scp ∧ (s.enterTest f).sto = s.sto ∧
      (s.enterTest f).hli = s.hli ∧ (s.enterTest f).pending = s.pending := by
  simp only [State.enterTest]; simp

@[simp] theorem State.leaveTest_frame (f : FanId) (s : State) :
      (s.leaveTest f).now = s.now ∧ (s.leaveTest f).inReset = s.inReset ∧
      (s.leaveTest f).installLock = s.installLock ∧ (s.leaveTest f).cfg = s.cfg ∧ (s.leaveTest f).sen = s.sen ∧
      (s.leaveTest f).fan.profile = s.fan.profile ∧ (s.leaveTest f).fan.allowance = s.fan.allowance ∧
      (s.leaveTest f).fan.tailDue = s.fan.tailDue ∧ (s.leaveTest f).fan.test = s.fan.test ∧
      (s.leaveTest f).tsv = s.tsv ∧ (s.leaveTest f).lel = s.lel ∧ (s.leaveTest f).axc = s.axc ∧
      (s.leaveTest f).lnc = s.lnc ∧ (s.leaveTest f).geo = s.geo ∧ (s.leaveTest f).mse = s.mse ∧
      (s.leaveTest f).scp = s.scp ∧ (s.leaveTest f).sto = s.sto ∧ (s.leaveTest f).hli = s.hli ∧
      (s.leaveTest f).pending = s.pending := by
  simp only [State.leaveTest]; simp

@[simp] theorem State.beginTurns_frame (fs : List FanId) (s : State) :
      (s.beginTurns fs).now = s.now ∧ (s.beginTurns fs).inReset = s.inReset ∧
      (s.beginTurns fs).installLock = s.installLock ∧ (s.beginTurns fs).cfg = s.cfg ∧
      (s.beginTurns fs).sen = s.sen ∧ (s.beginTurns fs).fan.profile = s.fan.profile ∧
      (s.beginTurns fs).fan.allowance = s.fan.allowance ∧ (s.beginTurns fs).fan.tailDue = s.fan.tailDue ∧
      (s.beginTurns fs).tsv = s.tsv ∧ (s.beginTurns fs).lel = s.lel ∧ (s.beginTurns fs).axc = s.axc ∧
      (s.beginTurns fs).lnc = s.lnc ∧ (s.beginTurns fs).geo = s.geo ∧ (s.beginTurns fs).mse = s.mse ∧
      (s.beginTurns fs).scp = s.scp ∧ (s.beginTurns fs).sto = s.sto ∧
      (s.beginTurns fs).hli.response = s.hli.response ∧ (s.beginTurns fs).hli.line = s.hli.line ∧
      (s.beginTurns fs).hli.sent = s.hli.sent ∧ (s.beginTurns fs).hli.ready = s.hli.ready ∧
      (s.beginTurns fs).hli.rest = s.hli.rest ∧ (s.beginTurns fs).pending = s.pending := by
  induction fs generalizing s with
  | nil => simp [State.beginTurns]
  | cons f rest ih => unfold State.beginTurns; split <;> simp [ih]

@[simp] theorem State.testStepEnds_frame (r : TestRun) (s : State) :
      (s.testStepEnds r).now = s.now ∧ (s.testStepEnds r).inReset = s.inReset ∧
      (s.testStepEnds r).installLock = s.installLock ∧ (s.testStepEnds r).cfg = s.cfg ∧
      (s.testStepEnds r).sen = s.sen ∧ (s.testStepEnds r).fan.profile = s.fan.profile ∧
      (s.testStepEnds r).fan.allowance = s.fan.allowance ∧ (s.testStepEnds r).fan.tailDue = s.fan.tailDue ∧
      (s.testStepEnds r).tsv = s.tsv ∧ (s.testStepEnds r).lel = s.lel ∧ (s.testStepEnds r).axc = s.axc ∧
      (s.testStepEnds r).lnc = s.lnc ∧ (s.testStepEnds r).geo = s.geo ∧ (s.testStepEnds r).mse = s.mse ∧
      (s.testStepEnds r).scp = s.scp ∧ (s.testStepEnds r).sto = s.sto ∧
      (s.testStepEnds r).hli.response = s.hli.response ∧ (s.testStepEnds r).hli.line = s.hli.line ∧
      (s.testStepEnds r).hli.sent = s.hli.sent ∧ (s.testStepEnds r).hli.ready = s.hli.ready ∧
      (s.testStepEnds r).hli.rest = s.hli.rest ∧ (s.testStepEnds r).pending = s.pending := by
  simp only [State.testStepEnds]; (repeat' split) <;> simp

@[simp] theorem State.abortTest_frame (c : TestCause) (s : State) :
      (s.abortTest c).now = s.now ∧ (s.abortTest c).inReset = s.inReset ∧
      (s.abortTest c).installLock = s.installLock ∧ (s.abortTest c).cfg = s.cfg ∧ (s.abortTest c).sen = s.sen ∧
      (s.abortTest c).fan.profile = s.fan.profile ∧ (s.abortTest c).fan.allowance = s.fan.allowance ∧
      (s.abortTest c).fan.tailDue = s.fan.tailDue ∧ (s.abortTest c).tsv = s.tsv ∧ (s.abortTest c).lel = s.lel ∧
      (s.abortTest c).axc = s.axc ∧ (s.abortTest c).lnc = s.lnc ∧ (s.abortTest c).geo = s.geo ∧
      (s.abortTest c).mse = s.mse ∧ (s.abortTest c).scp = s.scp ∧ (s.abortTest c).sto = s.sto ∧
      (s.abortTest c).hli.response = s.hli.response ∧ (s.abortTest c).hli.line = s.hli.line ∧
      (s.abortTest c).hli.sent = s.hli.sent ∧ (s.abortTest c).hli.ready = s.hli.ready ∧
      (s.abortTest c).hli.rest = s.hli.rest ∧ (s.abortTest c).pending = s.pending := by
  simp only [State.abortTest]; (repeat' split) <;> simp

@[simp] theorem State.startTest_frame (s : State) :
      s.startTest.now = s.now ∧ s.startTest.inReset = s.inReset ∧ s.startTest.installLock = s.installLock ∧
      s.startTest.cfg = s.cfg ∧ s.startTest.sen = s.sen ∧ s.startTest.fan.profile = s.fan.profile ∧
      s.startTest.fan.allowance = s.fan.allowance ∧ s.startTest.fan.tailDue = s.fan.tailDue ∧
      s.startTest.tsv = s.tsv ∧ s.startTest.lel = s.lel ∧ s.startTest.axc = s.axc ∧ s.startTest.lnc = s.lnc ∧
      s.startTest.geo = s.geo ∧ s.startTest.mse = s.mse ∧ s.startTest.scp = s.scp ∧ s.startTest.sto = s.sto ∧
      s.startTest.hli.response = s.hli.response ∧ s.startTest.hli.line = s.hli.line ∧
      s.startTest.hli.sent = s.hli.sent ∧ s.startTest.hli.ready = s.hli.ready ∧
      s.startTest.hli.rest = s.hli.rest ∧ s.startTest.pending = s.pending := by
  simp only [State.startTest]; simp

@[simp] theorem State.clearOverrides_frame (r : Regime) (s : State) :
      (s.clearOverrides r).now = s.now ∧ (s.clearOverrides r).inReset = s.inReset ∧
      (s.clearOverrides r).installLock = s.installLock ∧ (s.clearOverrides r).cfg = s.cfg ∧
      (s.clearOverrides r).sen = s.sen ∧ (s.clearOverrides r).fan.profile = s.fan.profile ∧
      (s.clearOverrides r).fan.allowance = s.fan.allowance ∧ (s.clearOverrides r).fan.tailDue = s.fan.tailDue ∧
      (s.clearOverrides r).fan.test = s.fan.test ∧ (s.clearOverrides r).tsv = s.tsv ∧
      (s.clearOverrides r).lel = s.lel ∧ (s.clearOverrides r).axc = s.axc ∧ (s.clearOverrides r).lnc = s.lnc ∧
      (s.clearOverrides r).geo = s.geo ∧ (s.clearOverrides r).mse = s.mse ∧ (s.clearOverrides r).scp = s.scp ∧
      (s.clearOverrides r).sto = s.sto ∧ (s.clearOverrides r).hli.response = s.hli.response ∧
      (s.clearOverrides r).hli.line = s.hli.line ∧ (s.clearOverrides r).hli.sent = s.hli.sent ∧
      (s.clearOverrides r).hli.ready = s.hli.ready ∧ (s.clearOverrides r).hli.rest = s.hli.rest ∧
      (s.clearOverrides r).pending = s.pending := by
  simp only [State.clearOverrides]; (repeat' split) <;> simp

@[simp] theorem State.forceFan_frame (f : FanId) (d : Nat) (s : State) :
      (s.forceFan f d).now = s.now ∧ (s.forceFan f d).inReset = s.inReset ∧
      (s.forceFan f d).installLock = s.installLock ∧ (s.forceFan f d).cfg = s.cfg ∧
      (s.forceFan f d).sen = s.sen ∧ (s.forceFan f d).fan.profile = s.fan.profile ∧
      (s.forceFan f d).fan.allowance = s.fan.allowance ∧ (s.forceFan f d).fan.tailDue = s.fan.tailDue ∧
      (s.forceFan f d).fan.test = s.fan.test ∧ (s.forceFan f d).tsv = s.tsv ∧ (s.forceFan f d).lel = s.lel ∧
      (s.forceFan f d).axc = s.axc ∧ (s.forceFan f d).lnc = s.lnc ∧ (s.forceFan f d).geo = s.geo ∧
      (s.forceFan f d).mse = s.mse ∧ (s.forceFan f d).scp = s.scp ∧ (s.forceFan f d).sto = s.sto ∧
      (s.forceFan f d).hli = s.hli ∧ (s.forceFan f d).pending = s.pending := by
  simp only [State.forceFan]; (repeat' split) <;> simp

@[simp] theorem State.releaseFan_frame (f : FanId) (s : State) :
      (s.releaseFan f).now = s.now ∧ (s.releaseFan f).inReset = s.inReset ∧
      (s.releaseFan f).installLock = s.installLock ∧ (s.releaseFan f).cfg = s.cfg ∧
      (s.releaseFan f).sen = s.sen ∧ (s.releaseFan f).fan.profile = s.fan.profile ∧
      (s.releaseFan f).fan.allowance = s.fan.allowance ∧ (s.releaseFan f).fan.tailDue = s.fan.tailDue ∧
      (s.releaseFan f).fan.test = s.fan.test ∧ (s.releaseFan f).tsv = s.tsv ∧ (s.releaseFan f).lel = s.lel ∧
      (s.releaseFan f).axc = s.axc ∧ (s.releaseFan f).lnc = s.lnc ∧ (s.releaseFan f).geo = s.geo ∧
      (s.releaseFan f).mse = s.mse ∧ (s.releaseFan f).scp = s.scp ∧ (s.releaseFan f).sto = s.sto ∧
      (s.releaseFan f).hli = s.hli ∧ (s.releaseFan f).pending = s.pending := by
  simp only [State.releaseFan]; (repeat' split) <;> simp

@[simp] theorem State.clearFan_frame (f : FanId) (s : State) :
      (s.clearFan f).now = s.now ∧ (s.clearFan f).inReset = s.inReset ∧
      (s.clearFan f).installLock = s.installLock ∧ (s.clearFan f).cfg = s.cfg ∧ (s.clearFan f).sen = s.sen ∧
      (s.clearFan f).fan.profile = s.fan.profile ∧ (s.clearFan f).fan.allowance = s.fan.allowance ∧
      (s.clearFan f).fan.tailDue = s.fan.tailDue ∧ (s.clearFan f).fan.test = s.fan.test ∧
      (s.clearFan f).tsv = s.tsv ∧ (s.clearFan f).lel = s.lel ∧ (s.clearFan f).axc = s.axc ∧
      (s.clearFan f).lnc = s.lnc ∧ (s.clearFan f).geo = s.geo ∧ (s.clearFan f).mse = s.mse ∧
      (s.clearFan f).scp = s.scp ∧ (s.clearFan f).sto = s.sto ∧ (s.clearFan f).hli = s.hli ∧
      (s.clearFan f).pending = s.pending := by
  simp only [State.clearFan]; (repeat' split) <;> simp

@[simp] theorem State.fansOnRegime_frame (r : Regime) (s : State) :
      (s.fansOnRegime r).now = s.now ∧ (s.fansOnRegime r).inReset = s.inReset ∧
      (s.fansOnRegime r).installLock = s.installLock ∧ (s.fansOnRegime r).cfg = s.cfg ∧
      (s.fansOnRegime r).sen = s.sen ∧ (s.fansOnRegime r).fan.profile = s.fan.profile ∧
      (s.fansOnRegime r).fan.allowance = s.fan.allowance ∧ (s.fansOnRegime r).fan.tailDue = s.fan.tailDue ∧
      (s.fansOnRegime r).tsv = s.tsv ∧ (s.fansOnRegime r).lel = s.lel ∧ (s.fansOnRegime r).axc = s.axc ∧
      (s.fansOnRegime r).lnc = s.lnc ∧ (s.fansOnRegime r).geo = s.geo ∧ (s.fansOnRegime r).mse = s.mse ∧
      (s.fansOnRegime r).scp = s.scp ∧ (s.fansOnRegime r).sto = s.sto ∧
      (s.fansOnRegime r).hli.response = s.hli.response ∧ (s.fansOnRegime r).hli.line = s.hli.line ∧
      (s.fansOnRegime r).hli.sent = s.hli.sent ∧ (s.fansOnRegime r).hli.ready = s.hli.ready ∧
      (s.fansOnRegime r).hli.rest = s.hli.rest ∧ (s.fansOnRegime r).pending = s.pending := by
  have each (act : FanId → State → State) (t : State)
      (h : ∀ f u, (act f u).now = u.now ∧ (act f u).inReset = u.inReset ∧ (act f u).installLock = u.installLock ∧
        (act f u).cfg = u.cfg ∧ (act f u).sen = u.sen ∧ (act f u).fan.profile = u.fan.profile ∧
        (act f u).fan.allowance = u.fan.allowance ∧ (act f u).fan.tailDue = u.fan.tailDue ∧
        (act f u).tsv = u.tsv ∧ (act f u).lel = u.lel ∧ (act f u).axc = u.axc ∧ (act f u).lnc = u.lnc ∧
        (act f u).geo = u.geo ∧ (act f u).mse = u.mse ∧ (act f u).scp = u.scp ∧ (act f u).sto = u.sto ∧
        (act f u).hli.response = u.hli.response ∧ (act f u).hli.line = u.hli.line ∧
        (act f u).hli.sent = u.hli.sent ∧ (act f u).hli.ready = u.hli.ready ∧ (act f u).hli.rest = u.hli.rest ∧
        (act f u).pending = u.pending) :
      (t.eachFan act).now = t.now ∧ (t.eachFan act).inReset = t.inReset ∧
        (t.eachFan act).installLock = t.installLock ∧ (t.eachFan act).cfg = t.cfg ∧ (t.eachFan act).sen = t.sen ∧
        (t.eachFan act).fan.profile = t.fan.profile ∧ (t.eachFan act).fan.allowance = t.fan.allowance ∧
        (t.eachFan act).fan.tailDue = t.fan.tailDue ∧ (t.eachFan act).tsv = t.tsv ∧ (t.eachFan act).lel = t.lel ∧
        (t.eachFan act).axc = t.axc ∧ (t.eachFan act).lnc = t.lnc ∧ (t.eachFan act).geo = t.geo ∧
        (t.eachFan act).mse = t.mse ∧ (t.eachFan act).scp = t.scp ∧ (t.eachFan act).sto = t.sto ∧
        (t.eachFan act).hli.response = t.hli.response ∧ (t.eachFan act).hli.line = t.hli.line ∧
        (t.eachFan act).hli.sent = t.hli.sent ∧ (t.eachFan act).hli.ready = t.hli.ready ∧
        (t.eachFan act).hli.rest = t.hli.rest ∧ (t.eachFan act).pending = t.pending := by
    simp only [State.eachFan, FanId.list, List.foldl, h, and_self]
  cases r with
  | normal => simp [State.fansOnRegime]
  | protect =>
    have h := each (fun f s => if (s.fanOf f).st = .failed ∧ s.hli.rest = false then s.commandFan f 1000 else s)
      (s.clearOverrides .protect) (fun f u => by split <;> simp)
    simpa [State.fansOnRegime] using h
  | emergency =>
    have h := each (fun f s => if s.hli.rest then s else s.commandFan f 1000)
      ((s.abortTest .emergency).clearOverrides .emergency) (fun f u => by split <;> simp)
    simpa [State.fansOnRegime] using h

@[simp] theorem State.fansRest_frame (s : State) :
      s.fansRest.now = s.now ∧ s.fansRest.inReset = s.inReset ∧ s.fansRest.installLock = s.installLock ∧
      s.fansRest.cfg = s.cfg ∧ s.fansRest.sen = s.sen ∧ s.fansRest.fan.profile = s.fan.profile ∧
      s.fansRest.fan.allowance = s.fan.allowance ∧ s.fansRest.fan.tailDue = s.fan.tailDue ∧
      s.fansRest.fan.test = s.fan.test ∧ s.fansRest.tsv = s.tsv ∧ s.fansRest.lel = s.lel ∧
      s.fansRest.axc = s.axc ∧ s.fansRest.lnc = s.lnc ∧ s.fansRest.geo = s.geo ∧ s.fansRest.mse = s.mse ∧
      s.fansRest.scp = s.scp ∧ s.fansRest.sto = s.sto ∧ s.fansRest.hli = s.hli ∧
      s.fansRest.pending = s.pending := by
  simp only [State.fansRest]; simp

@[simp] theorem State.fansWake_frame (s : State) :
      s.fansWake.now = s.now ∧ s.fansWake.inReset = s.inReset ∧ s.fansWake.installLock = s.installLock ∧
      s.fansWake.cfg = s.cfg ∧ s.fansWake.sen = s.sen ∧ s.fansWake.fan.profile = s.fan.profile ∧
      s.fansWake.fan.allowance = s.fan.allowance ∧ s.fansWake.fan.tailDue = s.fan.tailDue ∧
      s.fansWake.fan.test = s.fan.test ∧ s.fansWake.tsv = s.tsv ∧ s.fansWake.lel = s.lel ∧
      s.fansWake.axc = s.axc ∧ s.fansWake.lnc = s.lnc ∧ s.fansWake.geo = s.geo ∧ s.fansWake.mse = s.mse ∧
      s.fansWake.scp = s.scp ∧ s.fansWake.sto = s.sto ∧ s.fansWake.hli = s.hli ∧
      s.fansWake.pending = s.pending := by
  simp only [State.fansWake, State.eachFan, FanId.list, List.foldl]; simp

@[simp] theorem State.installFan_frame (old : Install) (f : FanId) (s : State) :
      (State.installFan old f s).now = s.now ∧ (State.installFan old f s).inReset = s.inReset ∧
      (State.installFan old f s).installLock = s.installLock ∧ (State.installFan old f s).cfg = s.cfg ∧
      (State.installFan old f s).sen = s.sen ∧ (State.installFan old f s).fan.profile = s.fan.profile ∧
      (State.installFan old f s).fan.allowance = s.fan.allowance ∧ (State.installFan old f s).fan.tailDue = s.fan.tailDue ∧
      (State.installFan old f s).fan.test = s.fan.test ∧ (State.installFan old f s).tsv = s.tsv ∧
      (State.installFan old f s).lel = s.lel ∧ (State.installFan old f s).axc = s.axc ∧ (State.installFan old f s).lnc = s.lnc ∧
      (State.installFan old f s).geo = s.geo ∧ (State.installFan old f s).mse = s.mse ∧ (State.installFan old f s).scp = s.scp ∧
      (State.installFan old f s).sto = s.sto ∧ (State.installFan old f s).hli = s.hli ∧
      (State.installFan old f s).pending = s.pending := by
  simp only [State.installFan]; simp

@[simp] theorem State.fansOnInstall_frame (old : Install) (s : State) :
      (s.fansOnInstall old).now = s.now ∧ (s.fansOnInstall old).inReset = s.inReset ∧
      (s.fansOnInstall old).installLock = s.installLock ∧ (s.fansOnInstall old).cfg = s.cfg ∧ (s.fansOnInstall old).sen = s.sen ∧
      (s.fansOnInstall old).fan.profile = s.fan.profile ∧ (s.fansOnInstall old).fan.allowance = s.fan.allowance ∧
      (s.fansOnInstall old).fan.tailDue = s.fan.tailDue ∧ (s.fansOnInstall old).fan.test = s.fan.test ∧
      (s.fansOnInstall old).tsv = s.tsv ∧ (s.fansOnInstall old).lel = s.lel ∧ (s.fansOnInstall old).axc = s.axc ∧
      (s.fansOnInstall old).lnc = s.lnc ∧ (s.fansOnInstall old).geo = s.geo ∧ (s.fansOnInstall old).mse = s.mse ∧
      (s.fansOnInstall old).scp = s.scp ∧ (s.fansOnInstall old).sto = s.sto ∧ (s.fansOnInstall old).hli = s.hli ∧
      (s.fansOnInstall old).pending = s.pending := by
  simp only [State.fansOnInstall, State.eachFan, FanId.list, List.foldl]; simp

@[simp] theorem State.countPulse_frame (f : FanId) (s : State) :
      (s.countPulse f).now = s.now ∧ (s.countPulse f).inReset = s.inReset ∧
      (s.countPulse f).installLock = s.installLock ∧ (s.countPulse f).cfg = s.cfg ∧
      (s.countPulse f).sen = s.sen ∧ (s.countPulse f).fan.profile = s.fan.profile ∧
      (s.countPulse f).fan.allowance = s.fan.allowance ∧ (s.countPulse f).fan.tailDue = s.fan.tailDue ∧
      (s.countPulse f).tsv = s.tsv ∧ (s.countPulse f).lel = s.lel ∧ (s.countPulse f).axc = s.axc ∧
      (s.countPulse f).lnc = s.lnc ∧ (s.countPulse f).geo = s.geo ∧ (s.countPulse f).mse = s.mse ∧
      (s.countPulse f).scp = s.scp ∧ (s.countPulse f).sto = s.sto ∧ (s.countPulse f).hli = s.hli ∧
      (s.countPulse f).pending = s.pending := by
  simp only [State.countPulse]; (repeat' split) <;> simp

/-! ## The light-engine link -/

@[simp] theorem State.send_frame (w : WaitingFrame) (s : State) :
      (s.send w).now = s.now ∧ (s.send w).inReset = s.inReset ∧ (s.send w).installLock = s.installLock ∧
      (s.send w).cfg = s.cfg ∧ (s.send w).sen = s.sen ∧ (s.send w).fan = s.fan ∧ (s.send w).tsv = s.tsv ∧
      (s.send w).axc = s.axc ∧ (s.send w).lnc = s.lnc ∧ (s.send w).geo = s.geo ∧ (s.send w).mse = s.mse ∧
      (s.send w).scp = s.scp ∧ (s.send w).sto = s.sto ∧ (s.send w).hli = s.hli ∧
      (s.send w).pending = s.pending := by
  simp only [State.send]; (repeat' split) <;> simp

@[simp] theorem State.frameDue_frame (w : WaitingFrame) (s : State) :
      (s.frameDue w).now = s.now ∧ (s.frameDue w).inReset = s.inReset ∧
      (s.frameDue w).installLock = s.installLock ∧ (s.frameDue w).cfg = s.cfg ∧ (s.frameDue w).sen = s.sen ∧
      (s.frameDue w).fan = s.fan ∧ (s.frameDue w).tsv = s.tsv ∧ (s.frameDue w).axc = s.axc ∧
      (s.frameDue w).lnc = s.lnc ∧ (s.frameDue w).geo = s.geo ∧ (s.frameDue w).mse = s.mse ∧
      (s.frameDue w).scp = s.scp ∧ (s.frameDue w).sto = s.sto ∧ (s.frameDue w).hli = s.hli ∧
      (s.frameDue w).pending = s.pending := by
  simp only [State.frameDue]; (repeat' split) <;> simp

@[simp] theorem State.frameSent_frame (s : State) :
      s.frameSent.now = s.now ∧ s.frameSent.inReset = s.inReset ∧ s.frameSent.installLock = s.installLock ∧
      s.frameSent.cfg = s.cfg ∧ s.frameSent.sen = s.sen ∧ s.frameSent.fan = s.fan ∧ s.frameSent.tsv = s.tsv ∧
      s.frameSent.axc = s.axc ∧ s.frameSent.lnc = s.lnc ∧ s.frameSent.geo = s.geo ∧ s.frameSent.mse = s.mse ∧
      s.frameSent.scp = s.scp ∧ s.frameSent.sto = s.sto ∧ s.frameSent.hli = s.hli ∧
      s.frameSent.pending = s.pending := by
  simp only [State.frameSent]; (repeat' split) <;> simp

@[simp] theorem State.stopNotices_frame (s : State) :
      s.stopNotices.now = s.now ∧ s.stopNotices.inReset = s.inReset ∧
      s.stopNotices.installLock = s.installLock ∧ s.stopNotices.cfg = s.cfg ∧ s.stopNotices.sen = s.sen ∧
      s.stopNotices.fan = s.fan ∧ s.stopNotices.tsv = s.tsv ∧ s.stopNotices.axc = s.axc ∧
      s.stopNotices.lnc = s.lnc ∧ s.stopNotices.geo = s.geo ∧ s.stopNotices.mse = s.mse ∧
      s.stopNotices.scp = s.scp ∧ s.stopNotices.sto = s.sto ∧ s.stopNotices.hli = s.hli ∧
      s.stopNotices.pending = s.pending := by
  simp only [State.stopNotices]; simp

@[simp] theorem State.solicit_frame (s : State) :
      s.solicit.now = s.now ∧ s.solicit.inReset = s.inReset ∧ s.solicit.installLock = s.installLock ∧
      s.solicit.cfg = s.cfg ∧ s.solicit.sen = s.sen ∧ s.solicit.fan = s.fan ∧ s.solicit.tsv = s.tsv ∧
      s.solicit.axc = s.axc ∧ s.solicit.lnc = s.lnc ∧ s.solicit.geo = s.geo ∧ s.solicit.mse = s.mse ∧
      s.solicit.scp = s.scp ∧ s.solicit.sto = s.sto ∧ s.solicit.hli = s.hli ∧ s.solicit.pending = s.pending := by
  simp only [State.solicit]; simp

@[simp] theorem State.notify_frame (s : State) :
      s.notify.now = s.now ∧ s.notify.inReset = s.inReset ∧ s.notify.installLock = s.installLock ∧
      s.notify.cfg = s.cfg ∧ s.notify.sen = s.sen ∧ s.notify.fan = s.fan ∧ s.notify.tsv = s.tsv ∧
      s.notify.axc = s.axc ∧ s.notify.lnc = s.lnc ∧ s.notify.geo = s.geo ∧ s.notify.mse = s.mse ∧
      s.notify.scp = s.scp ∧ s.notify.sto = s.sto ∧ s.notify.hli = s.hli ∧ s.notify.pending = s.pending := by
  simp only [State.notify]; simp

@[simp] theorem State.startDeadline_frame (s : State) :
      s.startDeadline.now = s.now ∧ s.startDeadline.inReset = s.inReset ∧
      s.startDeadline.installLock = s.installLock ∧ s.startDeadline.cfg = s.cfg ∧ s.startDeadline.sen = s.sen ∧
      s.startDeadline.fan = s.fan ∧ s.startDeadline.tsv = s.tsv ∧ s.startDeadline.axc = s.axc ∧
      s.startDeadline.lnc = s.lnc ∧ s.startDeadline.geo = s.geo ∧ s.startDeadline.mse = s.mse ∧
      s.startDeadline.scp = s.scp ∧ s.startDeadline.sto = s.sto ∧ s.startDeadline.hli = s.hli ∧
      s.startDeadline.pending = s.pending := by
  simp only [State.startDeadline]; simp

@[simp] theorem State.stopDeadline_frame (s : State) :
      s.stopDeadline.now = s.now ∧ s.stopDeadline.inReset = s.inReset ∧
      s.stopDeadline.installLock = s.installLock ∧ s.stopDeadline.cfg = s.cfg ∧ s.stopDeadline.sen = s.sen ∧
      s.stopDeadline.fan = s.fan ∧ s.stopDeadline.tsv = s.tsv ∧ s.stopDeadline.axc = s.axc ∧
      s.stopDeadline.lnc = s.lnc ∧ s.stopDeadline.geo = s.geo ∧ s.stopDeadline.mse = s.mse ∧
      s.stopDeadline.scp = s.scp ∧ s.stopDeadline.sto = s.sto ∧ s.stopDeadline.hli = s.hli ∧
      s.stopDeadline.pending = s.pending := by
  simp only [State.stopDeadline]; simp

@[simp] theorem State.deadlineOnClearing_frame (s : State) :
      s.deadlineOnClearing.now = s.now ∧ s.deadlineOnClearing.inReset = s.inReset ∧
      s.deadlineOnClearing.installLock = s.installLock ∧ s.deadlineOnClearing.cfg = s.cfg ∧
      s.deadlineOnClearing.sen = s.sen ∧ s.deadlineOnClearing.fan = s.fan ∧ s.deadlineOnClearing.tsv = s.tsv ∧
      s.deadlineOnClearing.axc = s.axc ∧ s.deadlineOnClearing.lnc = s.lnc ∧ s.deadlineOnClearing.geo = s.geo ∧
      s.deadlineOnClearing.mse = s.mse ∧ s.deadlineOnClearing.scp = s.scp ∧ s.deadlineOnClearing.sto = s.sto ∧
      s.deadlineOnClearing.hli = s.hli ∧ s.deadlineOnClearing.pending = s.pending := by
  simp only [State.deadlineOnClearing]; (repeat' split) <;> simp

@[simp] theorem State.frameError_frame (s : State) :
      s.frameError.now = s.now ∧ s.frameError.inReset = s.inReset ∧ s.frameError.installLock = s.installLock ∧
      s.frameError.cfg = s.cfg ∧ s.frameError.sen = s.sen ∧ s.frameError.fan = s.fan ∧
      s.frameError.tsv = s.tsv ∧ s.frameError.axc = s.axc ∧ s.frameError.lnc = s.lnc ∧
      s.frameError.geo = s.geo ∧ s.frameError.mse = s.mse ∧ s.frameError.scp = s.scp ∧
      s.frameError.sto = s.sto ∧ s.frameError.hli = s.hli ∧ s.frameError.pending = s.pending := by
  simp only [State.frameError]; simp

@[simp] theorem State.receiverHunts_frame (s : State) :
      s.receiverHunts.now = s.now ∧ s.receiverHunts.inReset = s.inReset ∧
      s.receiverHunts.installLock = s.installLock ∧ s.receiverHunts.cfg = s.cfg ∧ s.receiverHunts.sen = s.sen ∧
      s.receiverHunts.fan = s.fan ∧ s.receiverHunts.tsv = s.tsv ∧ s.receiverHunts.axc = s.axc ∧
      s.receiverHunts.lnc = s.lnc ∧ s.receiverHunts.geo = s.geo ∧ s.receiverHunts.mse = s.mse ∧
      s.receiverHunts.scp = s.scp ∧ s.receiverHunts.sto = s.sto ∧ s.receiverHunts.hli = s.hli ∧
      s.receiverHunts.pending = s.pending := by
  simp only [State.receiverHunts]; simp

@[simp] theorem State.deadlineOnChange_frame (b : Bool) (s : State) :
      (s.deadlineOnChange b).now = s.now ∧ (s.deadlineOnChange b).inReset = s.inReset ∧
      (s.deadlineOnChange b).installLock = s.installLock ∧ (s.deadlineOnChange b).cfg = s.cfg ∧
      (s.deadlineOnChange b).sen = s.sen ∧ (s.deadlineOnChange b).fan = s.fan ∧
      (s.deadlineOnChange b).tsv = s.tsv ∧ (s.deadlineOnChange b).axc = s.axc ∧
      (s.deadlineOnChange b).lnc = s.lnc ∧ (s.deadlineOnChange b).geo = s.geo ∧
      (s.deadlineOnChange b).mse = s.mse ∧ (s.deadlineOnChange b).scp = s.scp ∧
      (s.deadlineOnChange b).sto = s.sto ∧ (s.deadlineOnChange b).hli = s.hli ∧
      (s.deadlineOnChange b).pending = s.pending := by
  simp only [State.deadlineOnChange]; (repeat' split) <;> simp

@[simp] theorem State.takeNotice_frame (n : Nat) (s : State) :
      (s.takeNotice n).now = s.now ∧ (s.takeNotice n).inReset = s.inReset ∧
      (s.takeNotice n).installLock = s.installLock ∧ (s.takeNotice n).cfg = s.cfg ∧
      (s.takeNotice n).sen = s.sen ∧ (s.takeNotice n).fan = s.fan ∧ (s.takeNotice n).tsv = s.tsv ∧
      (s.takeNotice n).axc = s.axc ∧ (s.takeNotice n).lnc = s.lnc ∧ (s.takeNotice n).geo = s.geo ∧
      (s.takeNotice n).mse = s.mse ∧ (s.takeNotice n).scp = s.scp ∧ (s.takeNotice n).sto = s.sto ∧
      (s.takeNotice n).hli = s.hli ∧ (s.takeNotice n).pending = s.pending := by
  simp only [State.takeNotice]; (repeat' split) <;> simp

@[simp] theorem State.takeNoticeAtAcceptance_frame (n : Nat) (s : State) :
      (s.takeNoticeAtAcceptance n).now = s.now ∧ (s.takeNoticeAtAcceptance n).inReset = s.inReset ∧
      (s.takeNoticeAtAcceptance n).installLock = s.installLock ∧ (s.takeNoticeAtAcceptance n).cfg = s.cfg ∧
      (s.takeNoticeAtAcceptance n).sen = s.sen ∧ (s.takeNoticeAtAcceptance n).fan = s.fan ∧
      (s.takeNoticeAtAcceptance n).tsv = s.tsv ∧ (s.takeNoticeAtAcceptance n).axc = s.axc ∧
      (s.takeNoticeAtAcceptance n).lnc = s.lnc ∧ (s.takeNoticeAtAcceptance n).geo = s.geo ∧
      (s.takeNoticeAtAcceptance n).mse = s.mse ∧ (s.takeNoticeAtAcceptance n).scp = s.scp ∧
      (s.takeNoticeAtAcceptance n).sto = s.sto ∧ (s.takeNoticeAtAcceptance n).hli = s.hli ∧
      (s.takeNoticeAtAcceptance n).pending = s.pending := by
  simp only [State.takeNoticeAtAcceptance]; simp

@[simp] theorem State.setAcknowledged_frame (x : Option Nat) (s : State) :
      (s.setAcknowledged x).now = s.now ∧ (s.setAcknowledged x).inReset = s.inReset ∧
      (s.setAcknowledged x).installLock = s.installLock ∧ (s.setAcknowledged x).cfg = s.cfg ∧
      (s.setAcknowledged x).sen = s.sen ∧ (s.setAcknowledged x).fan = s.fan ∧
      (s.setAcknowledged x).tsv = s.tsv ∧ (s.setAcknowledged x).axc = s.axc ∧
      (s.setAcknowledged x).lnc = s.lnc ∧ (s.setAcknowledged x).geo = s.geo ∧
      (s.setAcknowledged x).mse = s.mse ∧ (s.setAcknowledged x).scp = s.scp ∧
      (s.setAcknowledged x).sto = s.sto ∧ (s.setAcknowledged x).hli.response = s.hli.response ∧
      (s.setAcknowledged x).hli.line = s.hli.line ∧ (s.setAcknowledged x).hli.sent = s.hli.sent ∧
      (s.setAcknowledged x).hli.ready = s.hli.ready ∧ (s.setAcknowledged x).hli.rest = s.hli.rest ∧
      (s.setAcknowledged x).pending = s.pending := by
  simp only [State.setAcknowledged]; (repeat' split) <;> simp

@[simp] theorem State.linkAccept_frame (x : AdvertFrame) (s : State) :
      (s.linkAccept x).now = s.now ∧ (s.linkAccept x).inReset = s.inReset ∧
      (s.linkAccept x).installLock = s.installLock ∧ (s.linkAccept x).cfg = s.cfg ∧
      (s.linkAccept x).sen = s.sen ∧ (s.linkAccept x).fan = s.fan ∧ (s.linkAccept x).tsv = s.tsv ∧
      (s.linkAccept x).axc = s.axc ∧ (s.linkAccept x).lnc = s.lnc ∧ (s.linkAccept x).geo = s.geo ∧
      (s.linkAccept x).mse = s.mse ∧ (s.linkAccept x).scp = s.scp ∧ (s.linkAccept x).sto = s.sto ∧
      (s.linkAccept x).hli.response = s.hli.response ∧ (s.linkAccept x).hli.line = s.hli.line ∧
      (s.linkAccept x).hli.sent = s.hli.sent ∧ (s.linkAccept x).hli.ready = s.hli.ready ∧
      (s.linkAccept x).hli.rest = s.hli.rest ∧ (s.linkAccept x).pending = s.pending := by
  simp only [State.linkAccept]; simp

/-! ## The thermal supervisor -/

@[simp] theorem State.resolveNotice_frame (s : State) :
      s.resolveNotice.now = s.now ∧ s.resolveNotice.inReset = s.inReset ∧
      s.resolveNotice.installLock = s.installLock ∧ s.resolveNotice.cfg = s.cfg ∧ s.resolveNotice.sen = s.sen ∧
      s.resolveNotice.fan = s.fan ∧ s.resolveNotice.axc = s.axc ∧ s.resolveNotice.lnc = s.lnc ∧
      s.resolveNotice.geo = s.geo ∧ s.resolveNotice.mse = s.mse ∧ s.resolveNotice.scp = s.scp ∧
      s.resolveNotice.sto = s.sto ∧ s.resolveNotice.hli = s.hli ∧ s.resolveNotice.pending = s.pending := by
  simp only [State.resolveNotice]; (repeat' split) <;> simp

@[simp] theorem State.resolveNoticeAtAcceptance_frame (s : State) :
      s.resolveNoticeAtAcceptance.now = s.now ∧ s.resolveNoticeAtAcceptance.inReset = s.inReset ∧
      s.resolveNoticeAtAcceptance.installLock = s.installLock ∧ s.resolveNoticeAtAcceptance.cfg = s.cfg ∧
      s.resolveNoticeAtAcceptance.sen = s.sen ∧ s.resolveNoticeAtAcceptance.fan = s.fan ∧
      s.resolveNoticeAtAcceptance.axc = s.axc ∧ s.resolveNoticeAtAcceptance.lnc = s.lnc ∧
      s.resolveNoticeAtAcceptance.geo = s.geo ∧ s.resolveNoticeAtAcceptance.mse = s.mse ∧
      s.resolveNoticeAtAcceptance.scp = s.scp ∧ s.resolveNoticeAtAcceptance.sto = s.sto ∧
      s.resolveNoticeAtAcceptance.hli = s.hli ∧ s.resolveNoticeAtAcceptance.pending = s.pending := by
  simp only [State.resolveNoticeAtAcceptance]; simp

@[simp] theorem State.endRest_frame (s : State) :
      s.endRest.now = s.now ∧ s.endRest.inReset = s.inReset ∧ s.endRest.installLock = s.installLock ∧
      s.endRest.cfg = s.cfg ∧ s.endRest.sen = s.sen ∧ s.endRest.fan.profile = s.fan.profile ∧
      s.endRest.fan.allowance = s.fan.allowance ∧ s.endRest.fan.tailDue = s.fan.tailDue ∧
      s.endRest.fan.test = s.fan.test ∧ s.endRest.tsv = s.tsv ∧ s.endRest.lel = s.lel ∧ s.endRest.axc = s.axc ∧
      s.endRest.lnc = s.lnc ∧ s.endRest.geo = s.geo ∧ s.endRest.mse = s.mse ∧ s.endRest.scp = s.scp ∧
      s.endRest.sto = s.sto ∧ s.endRest.hli.response = s.hli.response ∧ s.endRest.hli.line = s.hli.line ∧
      s.endRest.hli.sent = s.hli.sent ∧ s.endRest.hli.queue = s.hli.queue ∧ s.endRest.hli.ready = s.hli.ready ∧
      s.endRest.pending = s.pending := by
  simp only [State.endRest]; (repeat' split) <;> simp

@[simp] theorem State.wake_frame (c : WakeCause) (s : State) :
      (s.wake c).now = s.now ∧ (s.wake c).inReset = s.inReset ∧ (s.wake c).installLock = s.installLock ∧
      (s.wake c).cfg = s.cfg ∧ (s.wake c).sen = s.sen ∧ (s.wake c).fan.profile = s.fan.profile ∧
      (s.wake c).fan.allowance = s.fan.allowance ∧ (s.wake c).fan.tailDue = s.fan.tailDue ∧
      (s.wake c).fan.test = s.fan.test ∧ (s.wake c).tsv = s.tsv ∧ (s.wake c).lel = s.lel ∧
      (s.wake c).axc = s.axc ∧ (s.wake c).lnc = s.lnc ∧ (s.wake c).geo = s.geo ∧ (s.wake c).mse = s.mse ∧
      (s.wake c).scp = s.scp ∧ (s.wake c).sto = s.sto ∧ (s.wake c).hli.response = s.hli.response ∧
      (s.wake c).hli.line = s.hli.line ∧ (s.wake c).hli.sent = s.hli.sent ∧
      (s.wake c).hli.ready = s.hli.ready ∧ (s.wake c).pending = s.pending := by
  simp only [State.wake]; (repeat' split) <;> simp

@[simp] theorem State.changeRegime_frame (r : Regime) (c : CauseAt) (f : TsvBlock → TsvBlock) (s : State) :
      (s.changeRegime r c f).now = s.now ∧ (s.changeRegime r c f).inReset = s.inReset ∧
      (s.changeRegime r c f).installLock = s.installLock ∧ (s.changeRegime r c f).cfg = s.cfg ∧
      (s.changeRegime r c f).sen = s.sen ∧ (s.changeRegime r c f).fan.profile = s.fan.profile ∧
      (s.changeRegime r c f).fan.allowance = s.fan.allowance ∧
      (s.changeRegime r c f).fan.tailDue = s.fan.tailDue ∧ (s.changeRegime r c f).axc = s.axc ∧
      (s.changeRegime r c f).lnc = s.lnc ∧ (s.changeRegime r c f).geo = s.geo ∧
      (s.changeRegime r c f).mse = s.mse ∧ (s.changeRegime r c f).scp = s.scp ∧
      (s.changeRegime r c f).sto = s.sto ∧ (s.changeRegime r c f).hli.response = s.hli.response ∧
      (s.changeRegime r c f).hli.line = s.hli.line ∧ (s.changeRegime r c f).hli.sent = s.hli.sent ∧
      (s.changeRegime r c f).hli.ready = s.hli.ready ∧ (s.changeRegime r c f).pending = s.pending := by
  simp only [State.changeRegime]; (repeat' split) <;> simp

@[simp] theorem State.reportEmergency_frame (c : Cause) (s : State) :
      (s.reportEmergency c).now = s.now ∧ (s.reportEmergency c).inReset = s.inReset ∧
      (s.reportEmergency c).installLock = s.installLock ∧ (s.reportEmergency c).cfg = s.cfg ∧
      (s.reportEmergency c).sen = s.sen ∧ (s.reportEmergency c).fan.profile = s.fan.profile ∧
      (s.reportEmergency c).fan.allowance = s.fan.allowance ∧
      (s.reportEmergency c).fan.tailDue = s.fan.tailDue ∧ (s.reportEmergency c).axc = s.axc ∧
      (s.reportEmergency c).lnc = s.lnc ∧ (s.reportEmergency c).geo = s.geo ∧
      (s.reportEmergency c).mse = s.mse ∧ (s.reportEmergency c).scp = s.scp ∧
      (s.reportEmergency c).sto = s.sto ∧ (s.reportEmergency c).hli.response = s.hli.response ∧
      (s.reportEmergency c).hli.line = s.hli.line ∧ (s.reportEmergency c).hli.sent = s.hli.sent ∧
      (s.reportEmergency c).hli.ready = s.hli.ready ∧ (s.reportEmergency c).pending = s.pending := by
  simp only [State.reportEmergency]; (repeat' split) <;> simp

@[simp] theorem State.evaluateRegime_frame (s : State) :
      s.evaluateRegime.now = s.now ∧ s.evaluateRegime.inReset = s.inReset ∧
      s.evaluateRegime.installLock = s.installLock ∧ s.evaluateRegime.cfg = s.cfg ∧
      s.evaluateRegime.sen = s.sen ∧ s.evaluateRegime.fan.profile = s.fan.profile ∧
      s.evaluateRegime.fan.allowance = s.fan.allowance ∧ s.evaluateRegime.fan.tailDue = s.fan.tailDue ∧
      s.evaluateRegime.axc = s.axc ∧ s.evaluateRegime.lnc = s.lnc ∧ s.evaluateRegime.geo = s.geo ∧
      s.evaluateRegime.mse = s.mse ∧ s.evaluateRegime.scp = s.scp ∧ s.evaluateRegime.sto = s.sto ∧
      s.evaluateRegime.hli.response = s.hli.response ∧ s.evaluateRegime.hli.line = s.hli.line ∧
      s.evaluateRegime.hli.sent = s.hli.sent ∧ s.evaluateRegime.hli.ready = s.hli.ready ∧
      s.evaluateRegime.pending = s.pending := by
  simp only [State.evaluateRegime]; (repeat' split) <;> simp

@[simp] theorem State.ceilingStep_frame (s : State) :
      s.ceilingStep.now = s.now ∧ s.ceilingStep.inReset = s.inReset ∧
      s.ceilingStep.installLock = s.installLock ∧ s.ceilingStep.cfg = s.cfg ∧ s.ceilingStep.sen = s.sen ∧
      s.ceilingStep.fan = s.fan ∧ s.ceilingStep.lel = s.lel ∧ s.ceilingStep.axc = s.axc ∧
      s.ceilingStep.lnc = s.lnc ∧ s.ceilingStep.geo = s.geo ∧ s.ceilingStep.mse = s.mse ∧
      s.ceilingStep.scp = s.scp ∧ s.ceilingStep.sto = s.sto ∧ s.ceilingStep.hli = s.hli ∧
      s.ceilingStep.pending = s.pending := by
  simp only [State.ceilingStep]; (repeat' split) <;> simp

@[simp] theorem State.floorDwell_frame (s : State) :
      s.floorDwell.now = s.now ∧ s.floorDwell.inReset = s.inReset ∧ s.floorDwell.installLock = s.installLock ∧
      s.floorDwell.cfg = s.cfg ∧ s.floorDwell.sen = s.sen ∧ s.floorDwell.fan.profile = s.fan.profile ∧
      s.floorDwell.fan.allowance = s.fan.allowance ∧ s.floorDwell.fan.tailDue = s.fan.tailDue ∧
      s.floorDwell.axc = s.axc ∧ s.floorDwell.lnc = s.lnc ∧ s.floorDwell.geo = s.geo ∧
      s.floorDwell.mse = s.mse ∧ s.floorDwell.scp = s.scp ∧ s.floorDwell.sto = s.sto ∧
      s.floorDwell.hli.response = s.hli.response ∧ s.floorDwell.hli.line = s.hli.line ∧
      s.floorDwell.hli.sent = s.hli.sent ∧ s.floorDwell.hli.ready = s.hli.ready ∧
      s.floorDwell.pending = s.pending := by
  simp only [State.floorDwell]; (repeat' split) <;> simp

@[simp] theorem State.setLightMode_frame (n : Nat) (s : State) :
      (s.setLightMode n).now = s.now ∧ (s.setLightMode n).inReset = s.inReset ∧
      (s.setLightMode n).installLock = s.installLock ∧ (s.setLightMode n).cfg = s.cfg ∧
      (s.setLightMode n).sen = s.sen ∧ (s.setLightMode n).fan = s.fan ∧ (s.setLightMode n).axc = s.axc ∧
      (s.setLightMode n).lnc = s.lnc ∧ (s.setLightMode n).geo = s.geo ∧ (s.setLightMode n).mse = s.mse ∧
      (s.setLightMode n).scp = s.scp ∧ (s.setLightMode n).sto = s.sto ∧ (s.setLightMode n).hli = s.hli ∧
      (s.setLightMode n).pending = s.pending := by
  simp only [State.setLightMode]; (repeat' split) <;> simp

@[simp] theorem State.recirculation_frame (s : State) :
      s.recirculation.now = s.now ∧ s.recirculation.inReset = s.inReset ∧
      s.recirculation.installLock = s.installLock ∧ s.recirculation.cfg = s.cfg ∧ s.recirculation.sen = s.sen ∧
      s.recirculation.fan = s.fan ∧ s.recirculation.lel = s.lel ∧ s.recirculation.axc = s.axc ∧
      s.recirculation.lnc = s.lnc ∧ s.recirculation.geo = s.geo ∧ s.recirculation.mse = s.mse ∧
      s.recirculation.scp = s.scp ∧ s.recirculation.sto = s.sto ∧ s.recirculation.hli = s.hli ∧
      s.recirculation.pending = s.pending := by
  simp only [State.recirculation]; (repeat' split) <;> simp

@[simp] theorem State.fastWatch_frame (s : State) :
      s.fastWatch.now = s.now ∧ s.fastWatch.inReset = s.inReset ∧ s.fastWatch.installLock = s.installLock ∧
      s.fastWatch.cfg = s.cfg ∧ s.fastWatch.sen = s.sen ∧ s.fastWatch.fan = s.fan ∧ s.fastWatch.lel = s.lel ∧
      s.fastWatch.axc = s.axc ∧ s.fastWatch.lnc = s.lnc ∧ s.fastWatch.geo = s.geo ∧ s.fastWatch.mse = s.mse ∧
      s.fastWatch.scp = s.scp ∧ s.fastWatch.sto = s.sto ∧ s.fastWatch.hli = s.hli ∧
      s.fastWatch.pending = s.pending := by
  simp only [State.fastWatch]; (repeat' split) <;> simp

@[simp] theorem State.noteRecirc_frame (s : State) :
      s.noteRecirc.now = s.now ∧ s.noteRecirc.inReset = s.inReset ∧ s.noteRecirc.installLock = s.installLock ∧
      s.noteRecirc.cfg = s.cfg ∧ s.noteRecirc.sen = s.sen ∧ s.noteRecirc.fan = s.fan ∧
      s.noteRecirc.lel = s.lel ∧ s.noteRecirc.axc = s.axc ∧ s.noteRecirc.lnc = s.lnc ∧
      s.noteRecirc.geo = s.geo ∧ s.noteRecirc.mse = s.mse ∧ s.noteRecirc.scp = s.scp ∧
      s.noteRecirc.sto = s.sto ∧ s.noteRecirc.hli = s.hli ∧ s.noteRecirc.pending = s.pending := by
  simp only [State.noteRecirc]; simp

@[simp] theorem State.endRunOn_frame (c : RunOnEnd) (n : Nat) (s : State) :
      (s.endRunOn c n).now = s.now ∧ (s.endRunOn c n).inReset = s.inReset ∧
      (s.endRunOn c n).installLock = s.installLock ∧ (s.endRunOn c n).cfg = s.cfg ∧
      (s.endRunOn c n).sen = s.sen ∧ (s.endRunOn c n).fan = s.fan ∧ (s.endRunOn c n).lel = s.lel ∧
      (s.endRunOn c n).axc = s.axc ∧ (s.endRunOn c n).lnc = s.lnc ∧ (s.endRunOn c n).geo = s.geo ∧
      (s.endRunOn c n).mse = s.mse ∧ (s.endRunOn c n).scp = s.scp ∧ (s.endRunOn c n).sto = s.sto ∧
      (s.endRunOn c n).hli.response = s.hli.response ∧ (s.endRunOn c n).hli.line = s.hli.line ∧
      (s.endRunOn c n).hli.sent = s.hli.sent ∧ (s.endRunOn c n).hli.ready = s.hli.ready ∧
      (s.endRunOn c n).hli.rest = s.hli.rest ∧ (s.endRunOn c n).pending = s.pending := by
  simp only [State.endRunOn]; simp

@[simp] theorem State.runOnCheck_frame (s : State) :
      s.runOnCheck.now = s.now ∧ s.runOnCheck.inReset = s.inReset ∧ s.runOnCheck.installLock = s.installLock ∧
      s.runOnCheck.cfg = s.cfg ∧ s.runOnCheck.sen = s.sen ∧ s.runOnCheck.fan = s.fan ∧
      s.runOnCheck.lel = s.lel ∧ s.runOnCheck.axc = s.axc ∧ s.runOnCheck.lnc = s.lnc ∧
      s.runOnCheck.geo = s.geo ∧ s.runOnCheck.mse = s.mse ∧ s.runOnCheck.scp = s.scp ∧
      s.runOnCheck.sto = s.sto ∧ s.runOnCheck.hli.response = s.hli.response ∧
      s.runOnCheck.hli.line = s.hli.line ∧ s.runOnCheck.hli.sent = s.hli.sent ∧
      s.runOnCheck.hli.ready = s.hli.ready ∧ s.runOnCheck.hli.rest = s.hli.rest ∧
      s.runOnCheck.pending = s.pending := by
  simp only [State.runOnCheck]; (repeat' split) <;> simp

@[simp] theorem State.takeDrive_frame (n : Nat) (s : State) :
      (s.takeDrive n).now = s.now ∧ (s.takeDrive n).inReset = s.inReset ∧
      (s.takeDrive n).installLock = s.installLock ∧ (s.takeDrive n).cfg = s.cfg ∧ (s.takeDrive n).sen = s.sen ∧
      (s.takeDrive n).fan = s.fan ∧ (s.takeDrive n).lel = s.lel ∧ (s.takeDrive n).axc = s.axc ∧
      (s.takeDrive n).lnc = s.lnc ∧ (s.takeDrive n).geo = s.geo ∧ (s.takeDrive n).mse = s.mse ∧
      (s.takeDrive n).scp = s.scp ∧ (s.takeDrive n).sto = s.sto ∧ (s.takeDrive n).hli = s.hli ∧
      (s.takeDrive n).pending = s.pending := by
  simp only [State.takeDrive]; (repeat' split) <;> simp

@[simp] theorem State.supervise_frame (s : State) :
      s.supervise.now = s.now ∧ s.supervise.inReset = s.inReset ∧ s.supervise.installLock = s.installLock ∧
      s.supervise.cfg = s.cfg ∧ s.supervise.sen = s.sen ∧ s.supervise.fan.profile = s.fan.profile ∧
      s.supervise.fan.allowance = s.fan.allowance ∧ s.supervise.fan.tailDue = s.fan.tailDue ∧
      s.supervise.axc = s.axc ∧ s.supervise.lnc = s.lnc ∧ s.supervise.geo = s.geo ∧ s.supervise.mse = s.mse ∧
      s.supervise.scp = s.scp ∧ s.supervise.sto = s.sto ∧ s.supervise.hli.response = s.hli.response ∧
      s.supervise.hli.line = s.hli.line ∧ s.supervise.hli.sent = s.hli.sent ∧
      s.supervise.hli.ready = s.hli.ready ∧ s.supervise.pending = s.pending := by
  simp only [State.supervise]; simp

@[simp] theorem State.superviseAccept_frame (x : AdvertFrame) (s : State) :
      (s.superviseAccept x).now = s.now ∧ (s.superviseAccept x).inReset = s.inReset ∧
      (s.superviseAccept x).installLock = s.installLock ∧ (s.superviseAccept x).cfg = s.cfg ∧
      (s.superviseAccept x).sen = s.sen ∧ (s.superviseAccept x).fan = s.fan ∧
      (s.superviseAccept x).axc = s.axc ∧ (s.superviseAccept x).lnc = s.lnc ∧
      (s.superviseAccept x).geo = s.geo ∧ (s.superviseAccept x).mse = s.mse ∧
      (s.superviseAccept x).scp = s.scp ∧ (s.superviseAccept x).sto = s.sto ∧
      (s.superviseAccept x).hli = s.hli ∧ (s.superviseAccept x).pending = s.pending := by
  simp only [State.superviseAccept]; simp

@[simp] theorem State.recircOnOrientation_frame (x : Orientation) (s : State) :
      (s.recircOnOrientation x).now = s.now ∧ (s.recircOnOrientation x).inReset = s.inReset ∧
      (s.recircOnOrientation x).installLock = s.installLock ∧ (s.recircOnOrientation x).cfg = s.cfg ∧
      (s.recircOnOrientation x).sen = s.sen ∧ (s.recircOnOrientation x).fan = s.fan ∧
      (s.recircOnOrientation x).lel = s.lel ∧ (s.recircOnOrientation x).axc = s.axc ∧
      (s.recircOnOrientation x).lnc = s.lnc ∧ (s.recircOnOrientation x).geo = s.geo ∧
      (s.recircOnOrientation x).mse = s.mse ∧ (s.recircOnOrientation x).scp = s.scp ∧
      (s.recircOnOrientation x).sto = s.sto ∧ (s.recircOnOrientation x).hli = s.hli ∧
      (s.recircOnOrientation x).pending = s.pending := by
  simp only [State.recircOnOrientation]; (repeat' split) <;> simp

@[simp] theorem State.wakeByTemperature_frame (s : State) :
      s.wakeByTemperature.now = s.now ∧ s.wakeByTemperature.inReset = s.inReset ∧
      s.wakeByTemperature.installLock = s.installLock ∧ s.wakeByTemperature.cfg = s.cfg ∧
      s.wakeByTemperature.sen = s.sen ∧ s.wakeByTemperature.fan.profile = s.fan.profile ∧
      s.wakeByTemperature.fan.allowance = s.fan.allowance ∧ s.wakeByTemperature.fan.tailDue = s.fan.tailDue ∧
      s.wakeByTemperature.fan.test = s.fan.test ∧ s.wakeByTemperature.tsv = s.tsv ∧
      s.wakeByTemperature.lel = s.lel ∧ s.wakeByTemperature.axc = s.axc ∧ s.wakeByTemperature.lnc = s.lnc ∧
      s.wakeByTemperature.geo = s.geo ∧ s.wakeByTemperature.mse = s.mse ∧ s.wakeByTemperature.scp = s.scp ∧
      s.wakeByTemperature.sto = s.sto ∧ s.wakeByTemperature.hli.response = s.hli.response ∧
      s.wakeByTemperature.hli.line = s.hli.line ∧ s.wakeByTemperature.hli.sent = s.hli.sent ∧
      s.wakeByTemperature.hli.ready = s.hli.ready ∧ s.wakeByTemperature.pending = s.pending := by
  simp only [State.wakeByTemperature]; (repeat' split) <;> simp

/-! ## The axes -/

@[simp] theorem State.putAxis_frame (a : AxisId) (x : Axis) (s : State) :
      (s.putAxis a x).now = s.now ∧ (s.putAxis a x).inReset = s.inReset ∧
      (s.putAxis a x).installLock = s.installLock ∧ (s.putAxis a x).cfg = s.cfg ∧ (s.putAxis a x).sen = s.sen ∧
      (s.putAxis a x).fan.fans = s.fan.fans ∧ (s.putAxis a x).fan.profile = s.fan.profile ∧
      (s.putAxis a x).fan.test = s.fan.test ∧ (s.putAxis a x).tsv = s.tsv ∧ (s.putAxis a x).lel = s.lel ∧
      (s.putAxis a x).axc.forced = s.axc.forced ∧ (s.putAxis a x).axc.held = s.axc.held ∧
      (s.putAxis a x).lnc = s.lnc ∧ (s.putAxis a x).geo = s.geo ∧ (s.putAxis a x).mse = s.mse ∧
      (s.putAxis a x).scp = s.scp ∧ (s.putAxis a x).sto = s.sto ∧ (s.putAxis a x).hli = s.hli ∧
      (s.putAxis a x).pending = s.pending := by
  simp only [State.putAxis]; (repeat' split) <;> simp

@[simp] theorem State.holdStageEnds_frame (a : AxisId) (s : State) :
      (s.holdStageEnds a).now = s.now ∧ (s.holdStageEnds a).inReset = s.inReset ∧
      (s.holdStageEnds a).installLock = s.installLock ∧ (s.holdStageEnds a).cfg = s.cfg ∧
      (s.holdStageEnds a).sen = s.sen ∧ (s.holdStageEnds a).fan.fans = s.fan.fans ∧
      (s.holdStageEnds a).fan.profile = s.fan.profile ∧ (s.holdStageEnds a).fan.test = s.fan.test ∧
      (s.holdStageEnds a).tsv = s.tsv ∧ (s.holdStageEnds a).lel = s.lel ∧
      (s.holdStageEnds a).axc.forced = s.axc.forced ∧ (s.holdStageEnds a).axc.held = s.axc.held ∧
      (s.holdStageEnds a).lnc = s.lnc ∧ (s.holdStageEnds a).geo = s.geo ∧ (s.holdStageEnds a).mse = s.mse ∧
      (s.holdStageEnds a).scp = s.scp ∧ (s.holdStageEnds a).sto = s.sto ∧ (s.holdStageEnds a).hli = s.hli ∧
      (s.holdStageEnds a).pending = s.pending := by
  simp only [State.holdStageEnds]; (repeat' split) <;> simp

@[simp] theorem State.toIdle_frame (a : AxisId) (x : Axis) (s : State) :
      (s.toIdle a x).now = s.now ∧ (s.toIdle a x).inReset = s.inReset ∧
      (s.toIdle a x).installLock = s.installLock ∧ (s.toIdle a x).cfg = s.cfg ∧ (s.toIdle a x).sen = s.sen ∧
      (s.toIdle a x).fan.fans = s.fan.fans ∧ (s.toIdle a x).fan.profile = s.fan.profile ∧
      (s.toIdle a x).fan.test = s.fan.test ∧ (s.toIdle a x).tsv = s.tsv ∧ (s.toIdle a x).lel = s.lel ∧
      (s.toIdle a x).axc.forced = s.axc.forced ∧ (s.toIdle a x).axc.held = s.axc.held ∧
      (s.toIdle a x).lnc = s.lnc ∧ (s.toIdle a x).geo = s.geo ∧ (s.toIdle a x).mse = s.mse ∧
      (s.toIdle a x).scp = s.scp ∧ (s.toIdle a x).sto = s.sto ∧ (s.toIdle a x).hli = s.hli ∧
      (s.toIdle a x).pending = s.pending := by
  simp only [State.toIdle]; simp

@[simp] theorem State.enterMoving_frame (a : AxisId) (n : Nat) (s : State) :
      (s.enterMoving a n).1.now = s.now ∧ (s.enterMoving a n).1.inReset = s.inReset ∧
      (s.enterMoving a n).1.installLock = s.installLock ∧ (s.enterMoving a n).1.cfg = s.cfg ∧
      (s.enterMoving a n).1.sen = s.sen ∧ (s.enterMoving a n).1.fan.fans = s.fan.fans ∧
      (s.enterMoving a n).1.fan.profile = s.fan.profile ∧ (s.enterMoving a n).1.fan.test = s.fan.test ∧
      (s.enterMoving a n).1.tsv = s.tsv ∧ (s.enterMoving a n).1.lel = s.lel ∧
      (s.enterMoving a n).1.axc.forced = s.axc.forced ∧ (s.enterMoving a n).1.axc.held = s.axc.held ∧
      (s.enterMoving a n).1.lnc = s.lnc ∧ (s.enterMoving a n).1.geo = s.geo ∧
      (s.enterMoving a n).1.mse = s.mse ∧ (s.enterMoving a n).1.scp = s.scp ∧
      (s.enterMoving a n).1.sto = s.sto ∧ (s.enterMoving a n).1.hli = s.hli ∧
      (s.enterMoving a n).1.pending = s.pending := by
  simp only [State.enterMoving]; (repeat' split) <;> simp

@[simp] theorem State.startMove_frame (a : AxisId) (n : Nat) (s : State) :
      (s.startMove a n).1.now = s.now ∧ (s.startMove a n).1.inReset = s.inReset ∧
      (s.startMove a n).1.installLock = s.installLock ∧ (s.startMove a n).1.cfg = s.cfg ∧
      (s.startMove a n).1.sen = s.sen ∧ (s.startMove a n).1.fan.fans = s.fan.fans ∧
      (s.startMove a n).1.fan.profile = s.fan.profile ∧ (s.startMove a n).1.fan.test = s.fan.test ∧
      (s.startMove a n).1.tsv = s.tsv ∧ (s.startMove a n).1.lel = s.lel ∧
      (s.startMove a n).1.axc.forced = s.axc.forced ∧ (s.startMove a n).1.axc.held = s.axc.held ∧
      (s.startMove a n).1.lnc = s.lnc ∧ (s.startMove a n).1.geo = s.geo ∧ (s.startMove a n).1.mse = s.mse ∧
      (s.startMove a n).1.scp = s.scp ∧ (s.startMove a n).1.sto = s.sto ∧ (s.startMove a n).1.hli = s.hli ∧
      (s.startMove a n).1.pending = s.pending := by
  simp only [State.startMove]; (repeat' split) <;> simp

@[simp] theorem State.moveOrder_frame (a : AxisId) (z : Int) (s : State) :
      (s.moveOrder a z).1.now = s.now ∧ (s.moveOrder a z).1.inReset = s.inReset ∧
      (s.moveOrder a z).1.installLock = s.installLock ∧ (s.moveOrder a z).1.cfg = s.cfg ∧
      (s.moveOrder a z).1.sen = s.sen ∧ (s.moveOrder a z).1.fan.fans = s.fan.fans ∧
      (s.moveOrder a z).1.fan.profile = s.fan.profile ∧ (s.moveOrder a z).1.fan.test = s.fan.test ∧
      (s.moveOrder a z).1.tsv = s.tsv ∧ (s.moveOrder a z).1.lel = s.lel ∧
      (s.moveOrder a z).1.axc.forced = s.axc.forced ∧ (s.moveOrder a z).1.axc.held = s.axc.held ∧
      (s.moveOrder a z).1.lnc = s.lnc ∧ (s.moveOrder a z).1.geo = s.geo ∧ (s.moveOrder a z).1.mse = s.mse ∧
      (s.moveOrder a z).1.scp = s.scp ∧ (s.moveOrder a z).1.sto = s.sto ∧ (s.moveOrder a z).1.hli = s.hli ∧
      (s.moveOrder a z).1.pending = s.pending := by
  simp only [State.moveOrder]; (repeat' split) <;> simp

@[simp] theorem State.enterHoming_frame (a : AxisId) (s : State) :
      (s.enterHoming a).now = s.now ∧ (s.enterHoming a).inReset = s.inReset ∧
      (s.enterHoming a).installLock = s.installLock ∧ (s.enterHoming a).cfg = s.cfg ∧
      (s.enterHoming a).sen = s.sen ∧ (s.enterHoming a).fan.fans = s.fan.fans ∧
      (s.enterHoming a).fan.profile = s.fan.profile ∧ (s.enterHoming a).fan.test = s.fan.test ∧
      (s.enterHoming a).tsv = s.tsv ∧ (s.enterHoming a).lel = s.lel ∧
      (s.enterHoming a).axc.forced = s.axc.forced ∧ (s.enterHoming a).axc.held = s.axc.held ∧
      (s.enterHoming a).lnc = s.lnc ∧ (s.enterHoming a).geo = s.geo ∧ (s.enterHoming a).mse = s.mse ∧
      (s.enterHoming a).scp = s.scp ∧ (s.enterHoming a).sto = s.sto ∧ (s.enterHoming a).hli = s.hli ∧
      (s.enterHoming a).pending = s.pending := by
  simp only [State.enterHoming]; (repeat' split) <;> simp

@[simp] theorem State.startHome_frame (a : AxisId) (x : HomeOrigin) (s : State) :
      (s.startHome a x).now = s.now ∧ (s.startHome a x).inReset = s.inReset ∧
      (s.startHome a x).installLock = s.installLock ∧ (s.startHome a x).cfg = s.cfg ∧
      (s.startHome a x).sen = s.sen ∧ (s.startHome a x).fan.fans = s.fan.fans ∧
      (s.startHome a x).fan.profile = s.fan.profile ∧ (s.startHome a x).fan.test = s.fan.test ∧
      (s.startHome a x).tsv = s.tsv ∧ (s.startHome a x).lel = s.lel ∧
      (s.startHome a x).axc.forced = s.axc.forced ∧ (s.startHome a x).axc.held = s.axc.held ∧
      (s.startHome a x).geo = s.geo ∧ (s.startHome a x).mse = s.mse ∧ (s.startHome a x).scp = s.scp ∧
      (s.startHome a x).sto = s.sto ∧ (s.startHome a x).hli = s.hli ∧ (s.startHome a x).pending = s.pending := by
  simp only [State.startHome]; (repeat' split) <;> simp

@[simp] theorem State.homeOrder_frame (a : AxisId) (x : HomeOrigin) (s : State) :
      (s.homeOrder a x).now = s.now ∧ (s.homeOrder a x).inReset = s.inReset ∧
      (s.homeOrder a x).installLock = s.installLock ∧ (s.homeOrder a x).cfg = s.cfg ∧
      (s.homeOrder a x).sen = s.sen ∧ (s.homeOrder a x).fan.fans = s.fan.fans ∧
      (s.homeOrder a x).fan.profile = s.fan.profile ∧ (s.homeOrder a x).fan.test = s.fan.test ∧
      (s.homeOrder a x).tsv = s.tsv ∧ (s.homeOrder a x).lel = s.lel ∧
      (s.homeOrder a x).axc.forced = s.axc.forced ∧ (s.homeOrder a x).axc.held = s.axc.held ∧
      (s.homeOrder a x).geo = s.geo ∧ (s.homeOrder a x).mse = s.mse ∧ (s.homeOrder a x).scp = s.scp ∧
      (s.homeOrder a x).sto = s.sto ∧ (s.homeOrder a x).hli = s.hli ∧ (s.homeOrder a x).pending = s.pending := by
  simp only [State.homeOrder]; (repeat' split) <;> simp

@[simp] theorem State.homingFails_frame (a : AxisId) (c : HomeCause) (x : Axis) (s : State) :
      (s.homingFails a c x).now = s.now ∧ (s.homingFails a c x).inReset = s.inReset ∧
      (s.homingFails a c x).installLock = s.installLock ∧ (s.homingFails a c x).cfg = s.cfg ∧
      (s.homingFails a c x).sen = s.sen ∧ (s.homingFails a c x).fan.fans = s.fan.fans ∧
      (s.homingFails a c x).fan.profile = s.fan.profile ∧ (s.homingFails a c x).fan.test = s.fan.test ∧
      (s.homingFails a c x).tsv = s.tsv ∧ (s.homingFails a c x).lel = s.lel ∧
      (s.homingFails a c x).axc.forced = s.axc.forced ∧ (s.homingFails a c x).axc.held = s.axc.held ∧
      (s.homingFails a c x).lnc = s.lnc ∧ (s.homingFails a c x).geo = s.geo ∧
      (s.homingFails a c x).mse = s.mse ∧ (s.homingFails a c x).scp = s.scp ∧
      (s.homingFails a c x).sto = s.sto ∧ (s.homingFails a c x).hli.response = s.hli.response ∧
      (s.homingFails a c x).hli.line = s.hli.line ∧ (s.homingFails a c x).hli.sent = s.hli.sent ∧
      (s.homingFails a c x).hli.ready = s.hli.ready ∧ (s.homingFails a c x).hli.rest = s.hli.rest ∧
      (s.homingFails a c x).pending = s.pending := by
  simp only [State.homingFails]; simp

@[simp] theorem State.homingStep_frame (a : AxisId) (x : Axis) (p : HomePhase) (s : State) :
      (s.homingStep a x p).1.now = s.now ∧ (s.homingStep a x p).1.inReset = s.inReset ∧
      (s.homingStep a x p).1.installLock = s.installLock ∧ (s.homingStep a x p).1.cfg = s.cfg ∧
      (s.homingStep a x p).1.sen = s.sen ∧ (s.homingStep a x p).1.fan.fans = s.fan.fans ∧
      (s.homingStep a x p).1.fan.profile = s.fan.profile ∧ (s.homingStep a x p).1.fan.test = s.fan.test ∧
      (s.homingStep a x p).1.tsv = s.tsv ∧ (s.homingStep a x p).1.lel = s.lel ∧
      (s.homingStep a x p).1.axc.forced = s.axc.forced ∧ (s.homingStep a x p).1.axc.held = s.axc.held ∧
      (s.homingStep a x p).1.lnc = s.lnc ∧ (s.homingStep a x p).1.geo = s.geo ∧
      (s.homingStep a x p).1.mse = s.mse ∧ (s.homingStep a x p).1.scp = s.scp ∧
      (s.homingStep a x p).1.sto = s.sto ∧ (s.homingStep a x p).1.hli.response = s.hli.response ∧
      (s.homingStep a x p).1.hli.line = s.hli.line ∧ (s.homingStep a x p).1.hli.sent = s.hli.sent ∧
      (s.homingStep a x p).1.hli.ready = s.hli.ready ∧ (s.homingStep a x p).1.hli.rest = s.hli.rest ∧
      (s.homingStep a x p).1.pending = s.pending := by
  simp only [State.homingStep]; (repeat' split) <;> simp

@[simp] theorem State.energiseEnds_frame (a : AxisId) (s : State) :
      (s.energiseEnds a).1.now = s.now ∧ (s.energiseEnds a).1.inReset = s.inReset ∧
      (s.energiseEnds a).1.installLock = s.installLock ∧ (s.energiseEnds a).1.cfg = s.cfg ∧
      (s.energiseEnds a).1.sen = s.sen ∧ (s.energiseEnds a).1.fan.fans = s.fan.fans ∧
      (s.energiseEnds a).1.fan.profile = s.fan.profile ∧ (s.energiseEnds a).1.fan.test = s.fan.test ∧
      (s.energiseEnds a).1.tsv = s.tsv ∧ (s.energiseEnds a).1.lel = s.lel ∧
      (s.energiseEnds a).1.axc.forced = s.axc.forced ∧ (s.energiseEnds a).1.axc.held = s.axc.held ∧
      (s.energiseEnds a).1.lnc = s.lnc ∧ (s.energiseEnds a).1.geo = s.geo ∧ (s.energiseEnds a).1.mse = s.mse ∧
      (s.energiseEnds a).1.scp = s.scp ∧ (s.energiseEnds a).1.sto = s.sto ∧ (s.energiseEnds a).1.hli = s.hli ∧
      (s.energiseEnds a).1.pending = s.pending := by
  simp only [State.energiseEnds]; (repeat' split) <;> simp

@[simp] theorem State.slipInMotion_frame (a : AxisId) (n : Nat) (x : Axis) (s : State) :
      (s.slipInMotion a n x).now = s.now ∧ (s.slipInMotion a n x).inReset = s.inReset ∧
      (s.slipInMotion a n x).installLock = s.installLock ∧ (s.slipInMotion a n x).cfg = s.cfg ∧
      (s.slipInMotion a n x).sen = s.sen ∧ (s.slipInMotion a n x).fan.fans = s.fan.fans ∧
      (s.slipInMotion a n x).fan.profile = s.fan.profile ∧ (s.slipInMotion a n x).fan.test = s.fan.test ∧
      (s.slipInMotion a n x).tsv = s.tsv ∧ (s.slipInMotion a n x).lel = s.lel ∧
      (s.slipInMotion a n x).axc.forced = s.axc.forced ∧ (s.slipInMotion a n x).axc.held = s.axc.held ∧
      (s.slipInMotion a n x).lnc = s.lnc ∧ (s.slipInMotion a n x).geo = s.geo ∧
      (s.slipInMotion a n x).mse = s.mse ∧ (s.slipInMotion a n x).scp = s.scp ∧
      (s.slipInMotion a n x).sto = s.sto ∧ (s.slipInMotion a n x).hli.response = s.hli.response ∧
      (s.slipInMotion a n x).hli.line = s.hli.line ∧ (s.slipInMotion a n x).hli.sent = s.hli.sent ∧
      (s.slipInMotion a n x).hli.ready = s.hli.ready ∧ (s.slipInMotion a n x).hli.rest = s.hli.rest ∧
      (s.slipInMotion a n x).pending = s.pending := by
  simp only [State.slipInMotion]; simp

@[simp] theorem State.toSuspended_frame (a : AxisId) (x : Axis) (s : State) :
      (s.toSuspended a x).now = s.now ∧ (s.toSuspended a x).inReset = s.inReset ∧
      (s.toSuspended a x).installLock = s.installLock ∧ (s.toSuspended a x).cfg = s.cfg ∧
      (s.toSuspended a x).sen = s.sen ∧ (s.toSuspended a x).fan.fans = s.fan.fans ∧
      (s.toSuspended a x).fan.profile = s.fan.profile ∧ (s.toSuspended a x).fan.test = s.fan.test ∧
      (s.toSuspended a x).tsv = s.tsv ∧ (s.toSuspended a x).lel = s.lel ∧
      (s.toSuspended a x).axc.forced = s.axc.forced ∧ (s.toSuspended a x).axc.held = s.axc.held ∧
      (s.toSuspended a x).lnc = s.lnc ∧ (s.toSuspended a x).geo = s.geo ∧ (s.toSuspended a x).mse = s.mse ∧
      (s.toSuspended a x).scp = s.scp ∧ (s.toSuspended a x).sto = s.sto ∧ (s.toSuspended a x).hli = s.hli ∧
      (s.toSuspended a x).pending = s.pending := by
  simp only [State.toSuspended]; simp

@[simp] theorem State.afterStep_frame (a : AxisId) (n : Nat) (m : Motion) (x : Axis) (s : State) :
      (s.afterStep a n m x).1.now = s.now ∧ (s.afterStep a n m x).1.inReset = s.inReset ∧
      (s.afterStep a n m x).1.installLock = s.installLock ∧ (s.afterStep a n m x).1.cfg = s.cfg ∧
      (s.afterStep a n m x).1.sen = s.sen ∧ (s.afterStep a n m x).1.fan.fans = s.fan.fans ∧
      (s.afterStep a n m x).1.fan.profile = s.fan.profile ∧ (s.afterStep a n m x).1.fan.test = s.fan.test ∧
      (s.afterStep a n m x).1.tsv = s.tsv ∧ (s.afterStep a n m x).1.lel = s.lel ∧
      (s.afterStep a n m x).1.axc.forced = s.axc.forced ∧ (s.afterStep a n m x).1.axc.held = s.axc.held ∧
      (s.afterStep a n m x).1.lnc = s.lnc ∧ (s.afterStep a n m x).1.geo = s.geo ∧
      (s.afterStep a n m x).1.mse = s.mse ∧ (s.afterStep a n m x).1.scp = s.scp ∧
      (s.afterStep a n m x).1.sto = s.sto ∧ (s.afterStep a n m x).1.hli = s.hli ∧
      (s.afterStep a n m x).1.pending = s.pending := by
  simp only [State.afterStep]; (repeat' split) <;> simp

@[simp] theorem State.movingStep_frame (a : AxisId) (n : Nat) (m : Motion) (x : Axis) (s : State) :
      (s.movingStep a n m x).1.now = s.now ∧ (s.movingStep a n m x).1.inReset = s.inReset ∧
      (s.movingStep a n m x).1.installLock = s.installLock ∧ (s.movingStep a n m x).1.cfg = s.cfg ∧
      (s.movingStep a n m x).1.sen = s.sen ∧ (s.movingStep a n m x).1.fan.fans = s.fan.fans ∧
      (s.movingStep a n m x).1.fan.profile = s.fan.profile ∧ (s.movingStep a n m x).1.fan.test = s.fan.test ∧
      (s.movingStep a n m x).1.tsv = s.tsv ∧ (s.movingStep a n m x).1.lel = s.lel ∧
      (s.movingStep a n m x).1.axc.forced = s.axc.forced ∧ (s.movingStep a n m x).1.axc.held = s.axc.held ∧
      (s.movingStep a n m x).1.lnc = s.lnc ∧ (s.movingStep a n m x).1.geo = s.geo ∧
      (s.movingStep a n m x).1.mse = s.mse ∧ (s.movingStep a n m x).1.scp = s.scp ∧
      (s.movingStep a n m x).1.sto = s.sto ∧ (s.movingStep a n m x).1.hli.response = s.hli.response ∧
      (s.movingStep a n m x).1.hli.line = s.hli.line ∧ (s.movingStep a n m x).1.hli.sent = s.hli.sent ∧
      (s.movingStep a n m x).1.hli.ready = s.hli.ready ∧ (s.movingStep a n m x).1.hli.rest = s.hli.rest ∧
      (s.movingStep a n m x).1.pending = s.pending := by
  simp only [State.movingStep]; (repeat' split) <;> simp

@[simp] theorem State.axisSteps_frame (a : AxisId) (b : Bool) (s : State) :
      (s.axisSteps a b).1.now = s.now ∧ (s.axisSteps a b).1.inReset = s.inReset ∧
      (s.axisSteps a b).1.installLock = s.installLock ∧ (s.axisSteps a b).1.cfg = s.cfg ∧
      (s.axisSteps a b).1.sen = s.sen ∧ (s.axisSteps a b).1.fan.fans = s.fan.fans ∧
      (s.axisSteps a b).1.fan.profile = s.fan.profile ∧ (s.axisSteps a b).1.fan.test = s.fan.test ∧
      (s.axisSteps a b).1.tsv = s.tsv ∧ (s.axisSteps a b).1.lel = s.lel ∧
      (s.axisSteps a b).1.axc.forced = s.axc.forced ∧ (s.axisSteps a b).1.axc.held = s.axc.held ∧
      (s.axisSteps a b).1.lnc = s.lnc ∧ (s.axisSteps a b).1.geo = s.geo ∧ (s.axisSteps a b).1.mse = s.mse ∧
      (s.axisSteps a b).1.scp = s.scp ∧ (s.axisSteps a b).1.sto = s.sto ∧
      (s.axisSteps a b).1.hli.response = s.hli.response ∧ (s.axisSteps a b).1.hli.line = s.hli.line ∧
      (s.axisSteps a b).1.hli.sent = s.hli.sent ∧ (s.axisSteps a b).1.hli.ready = s.hli.ready ∧
      (s.axisSteps a b).1.hli.rest = s.hli.rest ∧ (s.axisSteps a b).1.pending = s.pending := by
  simp only [State.axisSteps]; (repeat' split) <;> simp

@[simp] theorem State.haltMoving_frame (a : AxisId) (x : Axis) (m : Motion) (s : State) :
      (s.haltMoving a x m).1.now = s.now ∧ (s.haltMoving a x m).1.inReset = s.inReset ∧
      (s.haltMoving a x m).1.installLock = s.installLock ∧ (s.haltMoving a x m).1.cfg = s.cfg ∧
      (s.haltMoving a x m).1.sen = s.sen ∧ (s.haltMoving a x m).1.fan.fans = s.fan.fans ∧
      (s.haltMoving a x m).1.fan.profile = s.fan.profile ∧ (s.haltMoving a x m).1.fan.test = s.fan.test ∧
      (s.haltMoving a x m).1.tsv = s.tsv ∧ (s.haltMoving a x m).1.lel = s.lel ∧
      (s.haltMoving a x m).1.axc.forced = s.axc.forced ∧ (s.haltMoving a x m).1.axc.held = s.axc.held ∧
      (s.haltMoving a x m).1.lnc = s.lnc ∧ (s.haltMoving a x m).1.geo = s.geo ∧
      (s.haltMoving a x m).1.mse = s.mse ∧ (s.haltMoving a x m).1.scp = s.scp ∧
      (s.haltMoving a x m).1.sto = s.sto ∧ (s.haltMoving a x m).1.hli = s.hli ∧
      (s.haltMoving a x m).1.pending = s.pending := by
  simp only [State.haltMoving]; (repeat' split) <;> simp

@[simp] theorem State.stopHoming_frame (a : AxisId) (x : Axis) (s : State) :
      (s.stopHoming a x).1.now = s.now ∧ (s.stopHoming a x).1.inReset = s.inReset ∧
      (s.stopHoming a x).1.installLock = s.installLock ∧ (s.stopHoming a x).1.cfg = s.cfg ∧
      (s.stopHoming a x).1.sen = s.sen ∧ (s.stopHoming a x).1.fan.fans = s.fan.fans ∧
      (s.stopHoming a x).1.fan.profile = s.fan.profile ∧ (s.stopHoming a x).1.fan.test = s.fan.test ∧
      (s.stopHoming a x).1.tsv = s.tsv ∧ (s.stopHoming a x).1.lel = s.lel ∧
      (s.stopHoming a x).1.axc.forced = s.axc.forced ∧ (s.stopHoming a x).1.axc.held = s.axc.held ∧
      (s.stopHoming a x).1.lnc = s.lnc ∧ (s.stopHoming a x).1.geo = s.geo ∧ (s.stopHoming a x).1.mse = s.mse ∧
      (s.stopHoming a x).1.scp = s.scp ∧ (s.stopHoming a x).1.sto = s.sto ∧
      (s.stopHoming a x).1.hli.response = s.hli.response ∧ (s.stopHoming a x).1.hli.line = s.hli.line ∧
      (s.stopHoming a x).1.hli.sent = s.hli.sent ∧ (s.stopHoming a x).1.hli.ready = s.hli.ready ∧
      (s.stopHoming a x).1.hli.rest = s.hli.rest ∧ (s.stopHoming a x).1.pending = s.pending := by
  simp only [State.stopHoming]; simp

@[simp] theorem State.haltOrder_frame (a : AxisId) (s : State) :
      (s.haltOrder a).1.now = s.now ∧ (s.haltOrder a).1.inReset = s.inReset ∧
      (s.haltOrder a).1.installLock = s.installLock ∧ (s.haltOrder a).1.cfg = s.cfg ∧
      (s.haltOrder a).1.sen = s.sen ∧ (s.haltOrder a).1.fan.fans = s.fan.fans ∧
      (s.haltOrder a).1.fan.profile = s.fan.profile ∧ (s.haltOrder a).1.fan.test = s.fan.test ∧
      (s.haltOrder a).1.tsv = s.tsv ∧ (s.haltOrder a).1.lel = s.lel ∧
      (s.haltOrder a).1.axc.forced = s.axc.forced ∧ (s.haltOrder a).1.axc.held = s.axc.held ∧
      (s.haltOrder a).1.lnc = s.lnc ∧ (s.haltOrder a).1.geo = s.geo ∧ (s.haltOrder a).1.mse = s.mse ∧
      (s.haltOrder a).1.scp = s.scp ∧ (s.haltOrder a).1.sto = s.sto ∧
      (s.haltOrder a).1.hli.response = s.hli.response ∧ (s.haltOrder a).1.hli.line = s.hli.line ∧
      (s.haltOrder a).1.hli.sent = s.hli.sent ∧ (s.haltOrder a).1.hli.ready = s.hli.ready ∧
      (s.haltOrder a).1.hli.rest = s.hli.rest ∧ (s.haltOrder a).1.pending = s.pending := by
  simp only [State.haltOrder]; (repeat' split) <;> simp

@[simp] theorem State.endstopChanges_frame (a : AxisId) (b : Bool) (s : State) :
      (s.endstopChanges a b).1.now = s.now ∧ (s.endstopChanges a b).1.inReset = s.inReset ∧
      (s.endstopChanges a b).1.installLock = s.installLock ∧ (s.endstopChanges a b).1.cfg = s.cfg ∧
      (s.endstopChanges a b).1.sen = s.sen ∧ (s.endstopChanges a b).1.fan.fans = s.fan.fans ∧
      (s.endstopChanges a b).1.fan.profile = s.fan.profile ∧ (s.endstopChanges a b).1.fan.test = s.fan.test ∧
      (s.endstopChanges a b).1.tsv = s.tsv ∧ (s.endstopChanges a b).1.lel = s.lel ∧
      (s.endstopChanges a b).1.axc.forced = s.axc.forced ∧ (s.endstopChanges a b).1.axc.held = s.axc.held ∧
      (s.endstopChanges a b).1.lnc = s.lnc ∧ (s.endstopChanges a b).1.geo = s.geo ∧
      (s.endstopChanges a b).1.mse = s.mse ∧ (s.endstopChanges a b).1.scp = s.scp ∧
      (s.endstopChanges a b).1.sto = s.sto ∧ (s.endstopChanges a b).1.hli.response = s.hli.response ∧
      (s.endstopChanges a b).1.hli.line = s.hli.line ∧ (s.endstopChanges a b).1.hli.sent = s.hli.sent ∧
      (s.endstopChanges a b).1.hli.ready = s.hli.ready ∧ (s.endstopChanges a b).1.hli.rest = s.hli.rest ∧
      (s.endstopChanges a b).1.pending = s.pending := by
  simp only [State.endstopChanges]; (repeat' split) <;> simp

@[simp] theorem State.forceReduced_frame (a : AxisId) (s : State) :
      (s.forceReduced a).now = s.now ∧ (s.forceReduced a).inReset = s.inReset ∧
      (s.forceReduced a).installLock = s.installLock ∧ (s.forceReduced a).cfg = s.cfg ∧
      (s.forceReduced a).sen = s.sen ∧ (s.forceReduced a).fan.fans = s.fan.fans ∧
      (s.forceReduced a).fan.profile = s.fan.profile ∧ (s.forceReduced a).fan.test = s.fan.test ∧
      (s.forceReduced a).tsv = s.tsv ∧ (s.forceReduced a).lel = s.lel ∧
      (s.forceReduced a).axc.forced = s.axc.forced ∧ (s.forceReduced a).axc.held = s.axc.held ∧
      (s.forceReduced a).lnc = s.lnc ∧ (s.forceReduced a).geo = s.geo ∧ (s.forceReduced a).mse = s.mse ∧
      (s.forceReduced a).scp = s.scp ∧ (s.forceReduced a).sto = s.sto ∧ (s.forceReduced a).hli = s.hli ∧
      (s.forceReduced a).pending = s.pending := by
  simp only [State.forceReduced]; (repeat' split) <;> simp

@[simp] theorem State.endReduced_frame (a : AxisId) (s : State) :
      (s.endReduced a).now = s.now ∧ (s.endReduced a).inReset = s.inReset ∧
      (s.endReduced a).installLock = s.installLock ∧ (s.endReduced a).cfg = s.cfg ∧
      (s.endReduced a).sen = s.sen ∧ (s.endReduced a).fan.fans = s.fan.fans ∧
      (s.endReduced a).fan.profile = s.fan.profile ∧ (s.endReduced a).fan.test = s.fan.test ∧
      (s.endReduced a).tsv = s.tsv ∧ (s.endReduced a).lel = s.lel ∧
      (s.endReduced a).axc.forced = s.axc.forced ∧ (s.endReduced a).axc.held = s.axc.held ∧
      (s.endReduced a).lnc = s.lnc ∧ (s.endReduced a).geo = s.geo ∧ (s.endReduced a).mse = s.mse ∧
      (s.endReduced a).scp = s.scp ∧ (s.endReduced a).sto = s.sto ∧ (s.endReduced a).hli = s.hli ∧
      (s.endReduced a).pending = s.pending := by
  simp only [State.endReduced]; (repeat' split) <;> simp

@[simp] theorem State.forcedCheck_frame (t : Temp) (s : State) :
      (s.forcedCheck t).now = s.now ∧ (s.forcedCheck t).inReset = s.inReset ∧
      (s.forcedCheck t).installLock = s.installLock ∧ (s.forcedCheck t).cfg = s.cfg ∧
      (s.forcedCheck t).sen = s.sen ∧ (s.forcedCheck t).fan.fans = s.fan.fans ∧
      (s.forcedCheck t).fan.profile = s.fan.profile ∧ (s.forcedCheck t).fan.test = s.fan.test ∧
      (s.forcedCheck t).tsv = s.tsv ∧ (s.forcedCheck t).lel = s.lel ∧ (s.forcedCheck t).axc.held = s.axc.held ∧
      (s.forcedCheck t).lnc = s.lnc ∧ (s.forcedCheck t).geo = s.geo ∧ (s.forcedCheck t).mse = s.mse ∧
      (s.forcedCheck t).scp = s.scp ∧ (s.forcedCheck t).sto = s.sto ∧ (s.forcedCheck t).hli = s.hli ∧
      (s.forcedCheck t).pending = s.pending := by
  simp only [State.forcedCheck]; (repeat' split) <;> simp

@[simp] theorem State.holdAxis_frame (a : AxisId) (s : State) :
      (s.holdAxis a).now = s.now ∧ (s.holdAxis a).inReset = s.inReset ∧
      (s.holdAxis a).installLock = s.installLock ∧ (s.holdAxis a).cfg = s.cfg ∧ (s.holdAxis a).sen = s.sen ∧
      (s.holdAxis a).fan.fans = s.fan.fans ∧ (s.holdAxis a).fan.profile = s.fan.profile ∧
      (s.holdAxis a).fan.test = s.fan.test ∧ (s.holdAxis a).tsv = s.tsv ∧ (s.holdAxis a).lel = s.lel ∧
      (s.holdAxis a).axc.forced = s.axc.forced ∧ (s.holdAxis a).axc.held = s.axc.held ∧
      (s.holdAxis a).lnc = s.lnc ∧ (s.holdAxis a).geo = s.geo ∧ (s.holdAxis a).mse = s.mse ∧
      (s.holdAxis a).scp = s.scp ∧ (s.holdAxis a).sto = s.sto ∧ (s.holdAxis a).hli = s.hli ∧
      (s.holdAxis a).pending = s.pending := by
  simp only [State.holdAxis]; (repeat' split) <;> simp

@[simp] theorem State.enterHoldCondition_frame (t : Temp) (s : State) :
      (s.enterHoldCondition t).now = s.now ∧ (s.enterHoldCondition t).inReset = s.inReset ∧
      (s.enterHoldCondition t).installLock = s.installLock ∧ (s.enterHoldCondition t).cfg = s.cfg ∧
      (s.enterHoldCondition t).sen = s.sen ∧ (s.enterHoldCondition t).fan.fans = s.fan.fans ∧
      (s.enterHoldCondition t).fan.profile = s.fan.profile ∧ (s.enterHoldCondition t).fan.test = s.fan.test ∧
      (s.enterHoldCondition t).tsv = s.tsv ∧ (s.enterHoldCondition t).lel = s.lel ∧
      (s.enterHoldCondition t).axc.forced = s.axc.forced ∧ (s.enterHoldCondition t).lnc = s.lnc ∧
      (s.enterHoldCondition t).geo = s.geo ∧ (s.enterHoldCondition t).mse = s.mse ∧
      (s.enterHoldCondition t).scp = s.scp ∧ (s.enterHoldCondition t).sto = s.sto ∧
      (s.enterHoldCondition t).hli.response = s.hli.response ∧ (s.enterHoldCondition t).hli.line = s.hli.line ∧
      (s.enterHoldCondition t).hli.sent = s.hli.sent ∧ (s.enterHoldCondition t).hli.ready = s.hli.ready ∧
      (s.enterHoldCondition t).hli.rest = s.hli.rest ∧ (s.enterHoldCondition t).pending = s.pending := by
  simp only [State.enterHoldCondition]; simp

@[simp] theorem State.resumeAxis_frame (a : AxisId) (s : State) :
      (s.resumeAxis a).1.now = s.now ∧ (s.resumeAxis a).1.inReset = s.inReset ∧
      (s.resumeAxis a).1.installLock = s.installLock ∧ (s.resumeAxis a).1.cfg = s.cfg ∧
      (s.resumeAxis a).1.sen = s.sen ∧ (s.resumeAxis a).1.fan.fans = s.fan.fans ∧
      (s.resumeAxis a).1.fan.profile = s.fan.profile ∧ (s.resumeAxis a).1.fan.test = s.fan.test ∧
      (s.resumeAxis a).1.tsv = s.tsv ∧ (s.resumeAxis a).1.lel = s.lel ∧
      (s.resumeAxis a).1.axc.forced = s.axc.forced ∧ (s.resumeAxis a).1.axc.held = s.axc.held ∧
      (s.resumeAxis a).1.geo = s.geo ∧ (s.resumeAxis a).1.mse = s.mse ∧ (s.resumeAxis a).1.scp = s.scp ∧
      (s.resumeAxis a).1.sto = s.sto ∧ (s.resumeAxis a).1.hli = s.hli ∧
      (s.resumeAxis a).1.pending = s.pending := by
  simp only [State.resumeAxis]; (repeat' split) <;> simp

@[simp] theorem State.restAxis_frame (a : AxisId) (s : State) :
      (s.restAxis a).now = s.now ∧ (s.restAxis a).inReset = s.inReset ∧
      (s.restAxis a).installLock = s.installLock ∧ (s.restAxis a).cfg = s.cfg ∧ (s.restAxis a).sen = s.sen ∧
      (s.restAxis a).fan.fans = s.fan.fans ∧ (s.restAxis a).fan.profile = s.fan.profile ∧
      (s.restAxis a).fan.test = s.fan.test ∧ (s.restAxis a).tsv = s.tsv ∧ (s.restAxis a).lel = s.lel ∧
      (s.restAxis a).axc.forced = s.axc.forced ∧ (s.restAxis a).axc.held = s.axc.held ∧
      (s.restAxis a).lnc = s.lnc ∧ (s.restAxis a).geo = s.geo ∧ (s.restAxis a).mse = s.mse ∧
      (s.restAxis a).scp = s.scp ∧ (s.restAxis a).sto = s.sto ∧ (s.restAxis a).hli = s.hli ∧
      (s.restAxis a).pending = s.pending := by
  simp only [State.restAxis]; (repeat' split) <;> simp

@[simp] theorem State.axisOnInstall_frame (b : Bool) (a : AxisId) (s : State) :
      (s.axisOnInstall b a).now = s.now ∧ (s.axisOnInstall b a).inReset = s.inReset ∧
      (s.axisOnInstall b a).installLock = s.installLock ∧ (s.axisOnInstall b a).cfg = s.cfg ∧
      (s.axisOnInstall b a).sen = s.sen ∧ (s.axisOnInstall b a).fan.fans = s.fan.fans ∧
      (s.axisOnInstall b a).fan.profile = s.fan.profile ∧ (s.axisOnInstall b a).fan.test = s.fan.test ∧
      (s.axisOnInstall b a).tsv = s.tsv ∧ (s.axisOnInstall b a).lel = s.lel ∧
      (s.axisOnInstall b a).axc.forced = s.axc.forced ∧ (s.axisOnInstall b a).axc.held = s.axc.held ∧
      (s.axisOnInstall b a).lnc = s.lnc ∧ (s.axisOnInstall b a).geo = s.geo ∧
      (s.axisOnInstall b a).mse = s.mse ∧ (s.axisOnInstall b a).scp = s.scp ∧
      (s.axisOnInstall b a).sto = s.sto ∧ (s.axisOnInstall b a).hli = s.hli ∧
      (s.axisOnInstall b a).pending = s.pending := by
  simp only [State.axisOnInstall]; (repeat' split) <;> simp

@[simp] theorem State.noteEndstop_frame (a : AxisId) (b : Bool) (s : State) :
      (s.noteEndstop a b).now = s.now ∧ (s.noteEndstop a b).inReset = s.inReset ∧
      (s.noteEndstop a b).installLock = s.installLock ∧ (s.noteEndstop a b).cfg = s.cfg ∧
      (s.noteEndstop a b).sen = s.sen ∧ (s.noteEndstop a b).fan.fans = s.fan.fans ∧
      (s.noteEndstop a b).fan.profile = s.fan.profile ∧ (s.noteEndstop a b).fan.test = s.fan.test ∧
      (s.noteEndstop a b).tsv = s.tsv ∧ (s.noteEndstop a b).lel = s.lel ∧
      (s.noteEndstop a b).axc.forced = s.axc.forced ∧ (s.noteEndstop a b).axc.held = s.axc.held ∧
      (s.noteEndstop a b).lnc = s.lnc ∧ (s.noteEndstop a b).geo = s.geo ∧ (s.noteEndstop a b).mse = s.mse ∧
      (s.noteEndstop a b).scp = s.scp ∧ (s.noteEndstop a b).sto = s.sto ∧ (s.noteEndstop a b).hli = s.hli ∧
      (s.noteEndstop a b).pending = s.pending := by
  simp only [State.noteEndstop]; simp

/-! ## Geometry -/

@[simp] theorem State.compose_frame (s : State) :
      s.compose.now = s.now ∧ s.compose.inReset = s.inReset ∧ s.compose.installLock = s.installLock ∧
      s.compose.cfg = s.cfg ∧ s.compose.sen = s.sen ∧ s.compose.fan = s.fan ∧ s.compose.tsv = s.tsv ∧
      s.compose.lel = s.lel ∧ s.compose.axc = s.axc ∧ s.compose.lnc = s.lnc ∧ s.compose.mse = s.mse ∧
      s.compose.scp = s.scp ∧ s.compose.sto = s.sto ∧ s.compose.hli.response = s.hli.response ∧
      s.compose.hli.line = s.hli.line ∧ s.compose.hli.sent = s.hli.sent ∧ s.compose.hli.ready = s.hli.ready ∧
      s.compose.hli.rest = s.hli.rest ∧ s.compose.pending = s.pending := by
  simp only [State.compose]; (repeat' split) <;> simp

@[simp] theorem State.startBuild_frame (s : State) :
      s.startBuild.now = s.now ∧ s.startBuild.inReset = s.inReset ∧ s.startBuild.installLock = s.installLock ∧
      s.startBuild.cfg = s.cfg ∧ s.startBuild.sen = s.sen ∧ s.startBuild.fan = s.fan ∧
      s.startBuild.tsv = s.tsv ∧ s.startBuild.lel = s.lel ∧ s.startBuild.axc = s.axc ∧
      s.startBuild.lnc = s.lnc ∧ s.startBuild.geo = s.geo ∧ s.startBuild.sto = s.sto ∧
      s.startBuild.hli = s.hli ∧ s.startBuild.pending = s.pending := by
  simp only [State.startBuild]; (repeat' split) <;> simp

@[simp] theorem State.setGeometry_frame (k : Keystone) (z : Nat) (s : State) :
      (s.setGeometry k z).now = s.now ∧ (s.setGeometry k z).inReset = s.inReset ∧
      (s.setGeometry k z).installLock = s.installLock ∧ (s.setGeometry k z).cfg = s.cfg ∧
      (s.setGeometry k z).sen = s.sen ∧ (s.setGeometry k z).fan = s.fan ∧ (s.setGeometry k z).tsv = s.tsv ∧
      (s.setGeometry k z).lel = s.lel ∧ (s.setGeometry k z).axc = s.axc ∧ (s.setGeometry k z).lnc = s.lnc ∧
      (s.setGeometry k z).sto = s.sto ∧ (s.setGeometry k z).hli.response = s.hli.response ∧
      (s.setGeometry k z).hli.line = s.hli.line ∧ (s.setGeometry k z).hli.sent = s.hli.sent ∧
      (s.setGeometry k z).hli.ready = s.hli.ready ∧ (s.setGeometry k z).hli.rest = s.hli.rest ∧
      (s.setGeometry k z).pending = s.pending := by
  simp only [State.setGeometry]; (repeat' split) <;> simp

@[simp] theorem State.setResiduals_frame (r : PerAxis Int) (s : State) :
      (s.setResiduals r).now = s.now ∧ (s.setResiduals r).inReset = s.inReset ∧
      (s.setResiduals r).installLock = s.installLock ∧ (s.setResiduals r).cfg = s.cfg ∧
      (s.setResiduals r).sen = s.sen ∧ (s.setResiduals r).fan = s.fan ∧ (s.setResiduals r).tsv = s.tsv ∧
      (s.setResiduals r).lel = s.lel ∧ (s.setResiduals r).axc = s.axc ∧ (s.setResiduals r).lnc = s.lnc ∧
      (s.setResiduals r).sto = s.sto ∧ (s.setResiduals r).hli.response = s.hli.response ∧
      (s.setResiduals r).hli.line = s.hli.line ∧ (s.setResiduals r).hli.sent = s.hli.sent ∧
      (s.setResiduals r).hli.ready = s.hli.ready ∧ (s.setResiduals r).hli.rest = s.hli.rest ∧
      (s.setResiduals r).pending = s.pending := by
  simp only [State.setResiduals]; simp

/-! ## The lens controller -/

@[simp] theorem State.handOver_frame (s : State) :
      s.handOver.now = s.now ∧ s.handOver.inReset = s.inReset ∧ s.handOver.installLock = s.installLock ∧
      s.handOver.cfg = s.cfg ∧ s.handOver.sen = s.sen ∧ s.handOver.fan = s.fan ∧ s.handOver.tsv = s.tsv ∧
      s.handOver.lel = s.lel ∧ s.handOver.axc = s.axc ∧ s.handOver.lnc = s.lnc ∧ s.handOver.sto = s.sto ∧
      s.handOver.hli.response = s.hli.response ∧ s.handOver.hli.line = s.hli.line ∧
      s.handOver.hli.sent = s.hli.sent ∧ s.handOver.hli.ready = s.hli.ready ∧
      s.handOver.hli.rest = s.hli.rest ∧ s.handOver.pending = s.pending := by
  simp only [State.handOver]; (repeat' split) <;> simp

@[simp] theorem State.reformResidual_frame (b : Bool) (s : State) :
      (s.reformResidual b).now = s.now ∧ (s.reformResidual b).inReset = s.inReset ∧
      (s.reformResidual b).installLock = s.installLock ∧ (s.reformResidual b).cfg = s.cfg ∧
      (s.reformResidual b).sen = s.sen ∧ (s.reformResidual b).fan = s.fan ∧ (s.reformResidual b).tsv = s.tsv ∧
      (s.reformResidual b).lel = s.lel ∧ (s.reformResidual b).axc = s.axc ∧ (s.reformResidual b).sto = s.sto ∧
      (s.reformResidual b).hli.response = s.hli.response ∧ (s.reformResidual b).hli.line = s.hli.line ∧
      (s.reformResidual b).hli.sent = s.hli.sent ∧ (s.reformResidual b).hli.ready = s.hli.ready ∧
      (s.reformResidual b).hli.rest = s.hli.rest ∧ (s.reformResidual b).pending = s.pending := by
  simp only [State.reformResidual]; simp

@[simp] theorem State.captureTcal_frame (s : State) :
      s.captureTcal.now = s.now ∧ s.captureTcal.inReset = s.inReset ∧
      s.captureTcal.installLock = s.installLock ∧ s.captureTcal.cfg = s.cfg ∧ s.captureTcal.sen = s.sen ∧
      s.captureTcal.fan = s.fan ∧ s.captureTcal.tsv = s.tsv ∧ s.captureTcal.lel = s.lel ∧
      s.captureTcal.axc = s.axc ∧ s.captureTcal.geo = s.geo ∧ s.captureTcal.mse = s.mse ∧
      s.captureTcal.scp = s.scp ∧ s.captureTcal.sto = s.sto ∧ s.captureTcal.hli = s.hli ∧
      s.captureTcal.pending = s.pending := by
  simp only [State.captureTcal]; simp

@[simp] theorem State.slipOfV_frame (s : State) :
      s.slipOfV.now = s.now ∧ s.slipOfV.inReset = s.inReset ∧ s.slipOfV.installLock = s.installLock ∧
      s.slipOfV.cfg = s.cfg ∧ s.slipOfV.sen = s.sen ∧ s.slipOfV.fan = s.fan ∧ s.slipOfV.tsv = s.tsv ∧
      s.slipOfV.lel = s.lel ∧ s.slipOfV.axc = s.axc ∧ s.slipOfV.sto = s.sto ∧
      s.slipOfV.hli.response = s.hli.response ∧ s.slipOfV.hli.line = s.hli.line ∧
      s.slipOfV.hli.sent = s.hli.sent ∧ s.slipOfV.hli.ready = s.hli.ready ∧ s.slipOfV.hli.rest = s.hli.rest ∧
      s.slipOfV.pending = s.pending := by
  simp only [State.slipOfV]; simp

@[simp] theorem State.recordOutcome_frame (e : OutcomeEntry) (s : State) :
      (s.recordOutcome e).now = s.now ∧ (s.recordOutcome e).inReset = s.inReset ∧
      (s.recordOutcome e).installLock = s.installLock ∧ (s.recordOutcome e).cfg = s.cfg ∧
      (s.recordOutcome e).sen = s.sen ∧ (s.recordOutcome e).fan = s.fan ∧ (s.recordOutcome e).tsv = s.tsv ∧
      (s.recordOutcome e).lel = s.lel ∧ (s.recordOutcome e).axc = s.axc ∧ (s.recordOutcome e).geo = s.geo ∧
      (s.recordOutcome e).mse = s.mse ∧ (s.recordOutcome e).scp = s.scp ∧ (s.recordOutcome e).sto = s.sto ∧
      (s.recordOutcome e).hli = s.hli ∧ (s.recordOutcome e).pending = s.pending := by
  simp only [State.recordOutcome]; (repeat' split) <;> simp

@[simp] theorem State.complete_frame (e : OutcomeEntry) (b : PerAxis (Option Int)) (s : State) :
      (s.complete e b).now = s.now ∧ (s.complete e b).inReset = s.inReset ∧
      (s.complete e b).installLock = s.installLock ∧ (s.complete e b).cfg = s.cfg ∧
      (s.complete e b).sen = s.sen ∧ (s.complete e b).fan = s.fan ∧ (s.complete e b).tsv = s.tsv ∧
      (s.complete e b).lel = s.lel ∧ (s.complete e b).axc = s.axc ∧ (s.complete e b).geo = s.geo ∧
      (s.complete e b).mse = s.mse ∧ (s.complete e b).scp = s.scp ∧ (s.complete e b).sto = s.sto ∧
      (s.complete e b).hli.response = s.hli.response ∧ (s.complete e b).hli.line = s.hli.line ∧
      (s.complete e b).hli.sent = s.hli.sent ∧ (s.complete e b).hli.ready = s.hli.ready ∧
      (s.complete e b).hli.rest = s.hli.rest ∧ (s.complete e b).pending = s.pending := by
  simp only [State.complete]; simp

@[simp] theorem State.completeRequest_frame (x : Executing) (s : State) :
      (s.completeRequest x).now = s.now ∧ (s.completeRequest x).inReset = s.inReset ∧
      (s.completeRequest x).installLock = s.installLock ∧ (s.completeRequest x).cfg = s.cfg ∧
      (s.completeRequest x).sen = s.sen ∧ (s.completeRequest x).fan = s.fan ∧
      (s.completeRequest x).tsv = s.tsv ∧ (s.completeRequest x).lel = s.lel ∧
      (s.completeRequest x).axc = s.axc ∧ (s.completeRequest x).geo = s.geo ∧
      (s.completeRequest x).mse = s.mse ∧ (s.completeRequest x).scp = s.scp ∧
      (s.completeRequest x).sto = s.sto ∧ (s.completeRequest x).hli.response = s.hli.response ∧
      (s.completeRequest x).hli.line = s.hli.line ∧ (s.completeRequest x).hli.sent = s.hli.sent ∧
      (s.completeRequest x).hli.ready = s.hli.ready ∧ (s.completeRequest x).hli.rest = s.hli.rest ∧
      (s.completeRequest x).pending = s.pending := by
  simp only [State.completeRequest]; (repeat' split) <;> simp

@[simp] theorem State.settle_frame (s : State) :
      s.settle.now = s.now ∧ s.settle.inReset = s.inReset ∧ s.settle.installLock = s.installLock ∧
      s.settle.cfg = s.cfg ∧ s.settle.sen = s.sen ∧ s.settle.fan = s.fan ∧ s.settle.tsv = s.tsv ∧
      s.settle.lel = s.lel ∧ s.settle.axc = s.axc ∧ s.settle.geo = s.geo ∧ s.settle.mse = s.mse ∧
      s.settle.scp = s.scp ∧ s.settle.sto = s.sto ∧ s.settle.hli.response = s.hli.response ∧
      s.settle.hli.line = s.hli.line ∧ s.settle.hli.sent = s.hli.sent ∧ s.settle.hli.ready = s.hli.ready ∧
      s.settle.hli.rest = s.hli.rest ∧ s.settle.pending = s.pending := by
  simp only [State.settle]; (repeat' split) <;> simp

@[simp] theorem State.startOverrange_frame (a : AxisId) (r : Request) (s : State) :
      (s.startOverrange a r).now = s.now ∧ (s.startOverrange a r).inReset = s.inReset ∧
      (s.startOverrange a r).installLock = s.installLock ∧ (s.startOverrange a r).cfg = s.cfg ∧
      (s.startOverrange a r).sen = s.sen ∧ (s.startOverrange a r).fan = s.fan ∧
      (s.startOverrange a r).tsv = s.tsv ∧ (s.startOverrange a r).lel = s.lel ∧
      (s.startOverrange a r).axc = s.axc ∧ (s.startOverrange a r).geo = s.geo ∧
      (s.startOverrange a r).mse = s.mse ∧ (s.startOverrange a r).scp = s.scp ∧
      (s.startOverrange a r).sto = s.sto ∧ (s.startOverrange a r).hli = s.hli ∧
      (s.startOverrange a r).pending = s.pending := by
  simp only [State.startOverrange]; (repeat' split) <;> simp

@[simp] theorem State.recallDrift_frame (z : Int) (t : Option Temp) (s : State) :
      (s.recallDrift z t).now = s.now ∧ (s.recallDrift z t).inReset = s.inReset ∧
      (s.recallDrift z t).installLock = s.installLock ∧ (s.recallDrift z t).cfg = s.cfg ∧
      (s.recallDrift z t).sen = s.sen ∧ (s.recallDrift z t).fan = s.fan ∧ (s.recallDrift z t).tsv = s.tsv ∧
      (s.recallDrift z t).lel = s.lel ∧ (s.recallDrift z t).axc = s.axc ∧ (s.recallDrift z t).geo = s.geo ∧
      (s.recallDrift z t).mse = s.mse ∧ (s.recallDrift z t).scp = s.scp ∧ (s.recallDrift z t).sto = s.sto ∧
      (s.recallDrift z t).hli = s.hli ∧ (s.recallDrift z t).pending = s.pending := by
  simp only [State.recallDrift]; (repeat' split) <;> simp

@[simp] theorem State.startDrift_frame (r : Request) (s : State) :
      (s.startDrift r).now = s.now ∧ (s.startDrift r).inReset = s.inReset ∧
      (s.startDrift r).installLock = s.installLock ∧ (s.startDrift r).cfg = s.cfg ∧
      (s.startDrift r).sen = s.sen ∧ (s.startDrift r).fan = s.fan ∧ (s.startDrift r).tsv = s.tsv ∧
      (s.startDrift r).lel = s.lel ∧ (s.startDrift r).axc = s.axc ∧ (s.startDrift r).geo = s.geo ∧
      (s.startDrift r).mse = s.mse ∧ (s.startDrift r).scp = s.scp ∧ (s.startDrift r).sto = s.sto ∧
      (s.startDrift r).hli = s.hli ∧ (s.startDrift r).pending = s.pending := by
  simp only [State.startDrift]; (repeat' split) <;> simp

@[simp] theorem State.giveOrder_frame (a : AxisId) (r : Request) (s : State) :
      (s.giveOrder a r).now = s.now ∧ (s.giveOrder a r).inReset = s.inReset ∧
      (s.giveOrder a r).installLock = s.installLock ∧ (s.giveOrder a r).cfg = s.cfg ∧
      (s.giveOrder a r).sen = s.sen ∧ (s.giveOrder a r).fan.fans = s.fan.fans ∧
      (s.giveOrder a r).fan.profile = s.fan.profile ∧ (s.giveOrder a r).fan.test = s.fan.test ∧
      (s.giveOrder a r).tsv = s.tsv ∧ (s.giveOrder a r).lel = s.lel ∧
      (s.giveOrder a r).axc.forced = s.axc.forced ∧ (s.giveOrder a r).axc.held = s.axc.held ∧
      (s.giveOrder a r).geo = s.geo ∧ (s.giveOrder a r).mse = s.mse ∧ (s.giveOrder a r).scp = s.scp ∧
      (s.giveOrder a r).sto = s.sto ∧ (s.giveOrder a r).hli = s.hli ∧ (s.giveOrder a r).pending = s.pending := by
  have e : s.giveOrder a r = match r.parts.get a with
      | none => s
      | some .home => s.homeOrder a .request
      | some (.move t _ _) =>
        (s.moveOrder a (if a = .v then t + s.lnc.applied else t)).1.putLens
          { (s.moveOrder a (if a = .v then t + s.lnc.applied else t)).1.lnc with
            executing := (s.moveOrder a (if a = .v then t + s.lnc.applied else t)).1.lnc.executing.map (fun x =>
              { x with answers := x.answers.set a (s.moveOrder a (if a = .v then t + s.lnc.applied else t)).2 }) } := rfl
  rw [e]; split <;> simp

@[simp] theorem State.startRequest_frame (r : Request) (s : State) :
      (s.startRequest r).now = s.now ∧ (s.startRequest r).inReset = s.inReset ∧
      (s.startRequest r).installLock = s.installLock ∧ (s.startRequest r).cfg = s.cfg ∧
      (s.startRequest r).sen = s.sen ∧ (s.startRequest r).fan.fans = s.fan.fans ∧
      (s.startRequest r).fan.profile = s.fan.profile ∧ (s.startRequest r).fan.test = s.fan.test ∧
      (s.startRequest r).tsv = s.tsv ∧ (s.startRequest r).lel = s.lel ∧
      (s.startRequest r).axc.forced = s.axc.forced ∧ (s.startRequest r).axc.held = s.axc.held ∧
      (s.startRequest r).sto = s.sto ∧ (s.startRequest r).hli.response = s.hli.response ∧
      (s.startRequest r).hli.line = s.hli.line ∧ (s.startRequest r).hli.sent = s.hli.sent ∧
      (s.startRequest r).hli.ready = s.hli.ready ∧ (s.startRequest r).hli.rest = s.hli.rest ∧
      (s.startRequest r).pending = s.pending := by
  simp only [State.startRequest]; (repeat' split) <;> simp

@[simp] theorem State.serve_frame (n : Nat) (s : State) :
      (s.serve n).now = s.now ∧ (s.serve n).inReset = s.inReset ∧ (s.serve n).installLock = s.installLock ∧
      (s.serve n).cfg = s.cfg ∧ (s.serve n).sen = s.sen ∧ (s.serve n).fan.fans = s.fan.fans ∧
      (s.serve n).fan.profile = s.fan.profile ∧ (s.serve n).fan.test = s.fan.test ∧ (s.serve n).tsv = s.tsv ∧
      (s.serve n).lel = s.lel ∧ (s.serve n).axc.forced = s.axc.forced ∧ (s.serve n).axc.held = s.axc.held ∧
      (s.serve n).sto = s.sto ∧ (s.serve n).hli.response = s.hli.response ∧ (s.serve n).hli.line = s.hli.line ∧
      (s.serve n).hli.sent = s.hli.sent ∧ (s.serve n).hli.ready = s.hli.ready ∧
      (s.serve n).hli.rest = s.hli.rest ∧ (s.serve n).pending = s.pending := by
  induction n generalizing s with
  | zero => simp [State.serve]
  | succ n ih => unfold State.serve; split; · simp
                 · split <;> simp [ih]

@[simp] theorem State.serveQueue_frame (s : State) :
      s.serveQueue.now = s.now ∧ s.serveQueue.inReset = s.inReset ∧ s.serveQueue.installLock = s.installLock ∧
      s.serveQueue.cfg = s.cfg ∧ s.serveQueue.sen = s.sen ∧ s.serveQueue.fan.fans = s.fan.fans ∧
      s.serveQueue.fan.profile = s.fan.profile ∧ s.serveQueue.fan.test = s.fan.test ∧
      s.serveQueue.tsv = s.tsv ∧ s.serveQueue.lel = s.lel ∧ s.serveQueue.axc.forced = s.axc.forced ∧
      s.serveQueue.axc.held = s.axc.held ∧ s.serveQueue.sto = s.sto ∧
      s.serveQueue.hli.response = s.hli.response ∧ s.serveQueue.hli.line = s.hli.line ∧
      s.serveQueue.hli.sent = s.hli.sent ∧ s.serveQueue.hli.ready = s.hli.ready ∧
      s.serveQueue.hli.rest = s.hli.rest ∧ s.serveQueue.pending = s.pending := by
  simp only [State.serveQueue]; simp

@[simp] theorem State.completeCorrection_frame (c : Correction) (x : AxisAnswer) (s : State) :
      (s.completeCorrection c x).now = s.now ∧ (s.completeCorrection c x).inReset = s.inReset ∧
      (s.completeCorrection c x).installLock = s.installLock ∧ (s.completeCorrection c x).cfg = s.cfg ∧
      (s.completeCorrection c x).sen = s.sen ∧ (s.completeCorrection c x).fan = s.fan ∧
      (s.completeCorrection c x).tsv = s.tsv ∧ (s.completeCorrection c x).lel = s.lel ∧
      (s.completeCorrection c x).axc = s.axc ∧ (s.completeCorrection c x).sto = s.sto ∧
      (s.completeCorrection c x).hli.response = s.hli.response ∧
      (s.completeCorrection c x).hli.line = s.hli.line ∧ (s.completeCorrection c x).hli.sent = s.hli.sent ∧
      (s.completeCorrection c x).hli.ready = s.hli.ready ∧ (s.completeCorrection c x).hli.rest = s.hli.rest ∧
      (s.completeCorrection c x).pending = s.pending := by
  simp only [State.completeCorrection]; (repeat' split) <;> simp

@[simp] theorem State.deliver_frame (a : AxisId) (x : Option AxisAnswer) (s : State) :
      (s.deliver a x).now = s.now ∧ (s.deliver a x).inReset = s.inReset ∧
      (s.deliver a x).installLock = s.installLock ∧ (s.deliver a x).cfg = s.cfg ∧ (s.deliver a x).sen = s.sen ∧
      (s.deliver a x).fan.fans = s.fan.fans ∧ (s.deliver a x).fan.profile = s.fan.profile ∧
      (s.deliver a x).fan.test = s.fan.test ∧ (s.deliver a x).tsv = s.tsv ∧ (s.deliver a x).lel = s.lel ∧
      (s.deliver a x).axc.forced = s.axc.forced ∧ (s.deliver a x).axc.held = s.axc.held ∧
      (s.deliver a x).sto = s.sto ∧ (s.deliver a x).hli.response = s.hli.response ∧
      (s.deliver a x).hli.line = s.hli.line ∧ (s.deliver a x).hli.sent = s.hli.sent ∧
      (s.deliver a x).hli.ready = s.hli.ready ∧ (s.deliver a x).hli.rest = s.hli.rest ∧
      (s.deliver a x).pending = s.pending := by
  simp only [State.deliver]; (repeat' split) <;> simp

@[simp] theorem State.andDeliver_frame (a : AxisId) (r : State × Option AxisAnswer) :
      (State.andDeliver a r).now = r.1.now ∧ (State.andDeliver a r).inReset = r.1.inReset ∧
      (State.andDeliver a r).installLock = r.1.installLock ∧ (State.andDeliver a r).cfg = r.1.cfg ∧
      (State.andDeliver a r).sen = r.1.sen ∧ (State.andDeliver a r).fan.fans = r.1.fan.fans ∧
      (State.andDeliver a r).fan.profile = r.1.fan.profile ∧ (State.andDeliver a r).fan.test = r.1.fan.test ∧
      (State.andDeliver a r).tsv = r.1.tsv ∧ (State.andDeliver a r).lel = r.1.lel ∧
      (State.andDeliver a r).axc.forced = r.1.axc.forced ∧ (State.andDeliver a r).axc.held = r.1.axc.held ∧
      (State.andDeliver a r).sto = r.1.sto ∧ (State.andDeliver a r).hli.response = r.1.hli.response ∧
      (State.andDeliver a r).hli.line = r.1.hli.line ∧ (State.andDeliver a r).hli.sent = r.1.hli.sent ∧
      (State.andDeliver a r).hli.ready = r.1.hli.ready ∧ (State.andDeliver a r).hli.rest = r.1.hli.rest ∧
      (State.andDeliver a r).pending = r.1.pending := by
  simp [State.andDeliver]

@[simp] theorem State.halt_frame (a : AxisId) (s : State) :
      (s.halt a).now = s.now ∧ (s.halt a).inReset = s.inReset ∧ (s.halt a).installLock = s.installLock ∧
      (s.halt a).cfg = s.cfg ∧ (s.halt a).sen = s.sen ∧ (s.halt a).fan.fans = s.fan.fans ∧
      (s.halt a).fan.profile = s.fan.profile ∧ (s.halt a).fan.test = s.fan.test ∧ (s.halt a).tsv = s.tsv ∧
      (s.halt a).lel = s.lel ∧ (s.halt a).axc.forced = s.axc.forced ∧ (s.halt a).axc.held = s.axc.held ∧
      (s.halt a).sto = s.sto ∧ (s.halt a).hli.response = s.hli.response ∧ (s.halt a).hli.line = s.hli.line ∧
      (s.halt a).hli.sent = s.hli.sent ∧ (s.halt a).hli.ready = s.hli.ready ∧
      (s.halt a).hli.rest = s.hli.rest ∧ (s.halt a).pending = s.pending := by
  simp only [State.halt]; simp

@[simp] theorem State.stopEntry_frame (r : Request) (s : State) :
      (s.stopEntry r).now = s.now ∧ (s.stopEntry r).inReset = s.inReset ∧
      (s.stopEntry r).installLock = s.installLock ∧ (s.stopEntry r).cfg = s.cfg ∧ (s.stopEntry r).sen = s.sen ∧
      (s.stopEntry r).fan = s.fan ∧ (s.stopEntry r).tsv = s.tsv ∧ (s.stopEntry r).lel = s.lel ∧
      (s.stopEntry r).axc = s.axc ∧ (s.stopEntry r).geo = s.geo ∧ (s.stopEntry r).mse = s.mse ∧
      (s.stopEntry r).scp = s.scp ∧ (s.stopEntry r).sto = s.sto ∧
      (s.stopEntry r).hli.response = s.hli.response ∧ (s.stopEntry r).hli.line = s.hli.line ∧
      (s.stopEntry r).hli.sent = s.hli.sent ∧ (s.stopEntry r).hli.ready = s.hli.ready ∧
      (s.stopEntry r).hli.rest = s.hli.rest ∧ (s.stopEntry r).pending = s.pending := by
  simp only [State.stopEntry]; simp

@[simp] theorem State.stopQueue_frame (s : State) :
      s.stopQueue.now = s.now ∧ s.stopQueue.inReset = s.inReset ∧ s.stopQueue.installLock = s.installLock ∧
      s.stopQueue.cfg = s.cfg ∧ s.stopQueue.sen = s.sen ∧ s.stopQueue.fan = s.fan ∧ s.stopQueue.tsv = s.tsv ∧
      s.stopQueue.lel = s.lel ∧ s.stopQueue.axc = s.axc ∧ s.stopQueue.geo = s.geo ∧ s.stopQueue.mse = s.mse ∧
      s.stopQueue.scp = s.scp ∧ s.stopQueue.sto = s.sto ∧ s.stopQueue.hli.response = s.hli.response ∧
      s.stopQueue.hli.line = s.hli.line ∧ s.stopQueue.hli.sent = s.hli.sent ∧
      s.stopQueue.hli.ready = s.hli.ready ∧ s.stopQueue.hli.rest = s.hli.rest ∧
      s.stopQueue.pending = s.pending := by
  have each (rs : List Request) (t : State) :
      (rs.foldl State.stopEntry t).now = t.now ∧ (rs.foldl State.stopEntry t).inReset = t.inReset ∧
        (rs.foldl State.stopEntry t).installLock = t.installLock ∧ (rs.foldl State.stopEntry t).cfg = t.cfg ∧
        (rs.foldl State.stopEntry t).sen = t.sen ∧ (rs.foldl State.stopEntry t).fan = t.fan ∧
        (rs.foldl State.stopEntry t).tsv = t.tsv ∧ (rs.foldl State.stopEntry t).lel = t.lel ∧
        (rs.foldl State.stopEntry t).axc = t.axc ∧ (rs.foldl State.stopEntry t).geo = t.geo ∧
        (rs.foldl State.stopEntry t).mse = t.mse ∧ (rs.foldl State.stopEntry t).scp = t.scp ∧
        (rs.foldl State.stopEntry t).sto = t.sto ∧ (rs.foldl State.stopEntry t).hli.response = t.hli.response ∧
        (rs.foldl State.stopEntry t).hli.line = t.hli.line ∧ (rs.foldl State.stopEntry t).hli.sent = t.hli.sent ∧
        (rs.foldl State.stopEntry t).hli.ready = t.hli.ready ∧
        (rs.foldl State.stopEntry t).hli.rest = t.hli.rest ∧ (rs.foldl State.stopEntry t).pending = t.pending := by
    induction rs generalizing t with
    | nil => simp
    | cons r rest ih => simp [ih]
  have h := each s.lnc.queue (s.putLens { s.lnc with queue := [] })
  simpa [State.stopQueue] using h

@[simp] theorem State.haltInHand_frame (a : AxisId) (s : State) :
      (s.haltInHand a).now = s.now ∧ (s.haltInHand a).inReset = s.inReset ∧
      (s.haltInHand a).installLock = s.installLock ∧ (s.haltInHand a).cfg = s.cfg ∧
      (s.haltInHand a).sen = s.sen ∧ (s.haltInHand a).fan.fans = s.fan.fans ∧
      (s.haltInHand a).fan.profile = s.fan.profile ∧ (s.haltInHand a).fan.test = s.fan.test ∧
      (s.haltInHand a).tsv = s.tsv ∧ (s.haltInHand a).lel = s.lel ∧
      (s.haltInHand a).axc.forced = s.axc.forced ∧ (s.haltInHand a).axc.held = s.axc.held ∧
      (s.haltInHand a).sto = s.sto ∧ (s.haltInHand a).hli.response = s.hli.response ∧
      (s.haltInHand a).hli.line = s.hli.line ∧ (s.haltInHand a).hli.sent = s.hli.sent ∧
      (s.haltInHand a).hli.ready = s.hli.ready ∧ (s.haltInHand a).hli.rest = s.hli.rest ∧
      (s.haltInHand a).pending = s.pending := by
  simp only [State.haltInHand]; (repeat' split) <;> simp

@[simp] theorem State.stopAll_frame (s : State) :
      s.stopAll.now = s.now ∧ s.stopAll.inReset = s.inReset ∧ s.stopAll.installLock = s.installLock ∧
      s.stopAll.cfg = s.cfg ∧ s.stopAll.sen = s.sen ∧ s.stopAll.fan.fans = s.fan.fans ∧
      s.stopAll.fan.profile = s.fan.profile ∧ s.stopAll.fan.test = s.fan.test ∧ s.stopAll.tsv = s.tsv ∧
      s.stopAll.lel = s.lel ∧ s.stopAll.axc.forced = s.axc.forced ∧ s.stopAll.axc.held = s.axc.held ∧
      s.stopAll.sto = s.sto ∧ s.stopAll.hli.response = s.hli.response ∧ s.stopAll.hli.line = s.hli.line ∧
      s.stopAll.hli.sent = s.hli.sent ∧ s.stopAll.hli.ready = s.hli.ready ∧ s.stopAll.hli.rest = s.hli.rest ∧
      s.stopAll.pending = s.pending := by
  simp only [State.stopAll]; simp

@[simp] theorem State.enqueue_frame (r : Request) (s : State) :
      (s.enqueue r).now = s.now ∧ (s.enqueue r).inReset = s.inReset ∧
      (s.enqueue r).installLock = s.installLock ∧ (s.enqueue r).cfg = s.cfg ∧ (s.enqueue r).sen = s.sen ∧
      (s.enqueue r).fan.fans = s.fan.fans ∧ (s.enqueue r).fan.profile = s.fan.profile ∧
      (s.enqueue r).fan.test = s.fan.test ∧ (s.enqueue r).tsv = s.tsv ∧ (s.enqueue r).lel = s.lel ∧
      (s.enqueue r).axc.forced = s.axc.forced ∧ (s.enqueue r).axc.held = s.axc.held ∧
      (s.enqueue r).sto = s.sto ∧ (s.enqueue r).hli.response = s.hli.response ∧
      (s.enqueue r).hli.line = s.hli.line ∧ (s.enqueue r).hli.sent = s.hli.sent ∧
      (s.enqueue r).hli.ready = s.hli.ready ∧ (s.enqueue r).hli.rest = s.hli.rest ∧
      (s.enqueue r).pending = s.pending := by
  simp only [State.enqueue]; simp

@[simp] theorem State.endHoldCondition_frame (t : Temp) (s : State) :
      (s.endHoldCondition t).now = s.now ∧ (s.endHoldCondition t).inReset = s.inReset ∧
      (s.endHoldCondition t).installLock = s.installLock ∧ (s.endHoldCondition t).cfg = s.cfg ∧
      (s.endHoldCondition t).sen = s.sen ∧ (s.endHoldCondition t).fan.fans = s.fan.fans ∧
      (s.endHoldCondition t).fan.profile = s.fan.profile ∧ (s.endHoldCondition t).fan.test = s.fan.test ∧
      (s.endHoldCondition t).tsv = s.tsv ∧ (s.endHoldCondition t).lel = s.lel ∧
      (s.endHoldCondition t).axc.forced = s.axc.forced ∧ (s.endHoldCondition t).sto = s.sto ∧
      (s.endHoldCondition t).hli.response = s.hli.response ∧ (s.endHoldCondition t).hli.line = s.hli.line ∧
      (s.endHoldCondition t).hli.sent = s.hli.sent ∧ (s.endHoldCondition t).hli.ready = s.hli.ready ∧
      (s.endHoldCondition t).hli.rest = s.hli.rest ∧ (s.endHoldCondition t).pending = s.pending := by
  have e : s.endHoldCondition t =
      ((((((s.putConditions s.axc.forced false).resumeAxis .h).1.resumeAxis .v).1.raise
        (.motionHeld false t s.holdEffects)).deliver .h ((s.putConditions s.axc.forced false).resumeAxis .h).2).deliver .v
          (((s.putConditions s.axc.forced false).resumeAxis .h).1.resumeAxis .v).2) := rfl
  rw [e]; simp

@[simp] theorem State.holdCheck_frame (t : Temp) (s : State) :
      (s.holdCheck t).now = s.now ∧ (s.holdCheck t).inReset = s.inReset ∧
      (s.holdCheck t).installLock = s.installLock ∧ (s.holdCheck t).cfg = s.cfg ∧ (s.holdCheck t).sen = s.sen ∧
      (s.holdCheck t).fan.fans = s.fan.fans ∧ (s.holdCheck t).fan.profile = s.fan.profile ∧
      (s.holdCheck t).fan.test = s.fan.test ∧ (s.holdCheck t).tsv = s.tsv ∧ (s.holdCheck t).lel = s.lel ∧
      (s.holdCheck t).axc.forced = s.axc.forced ∧ (s.holdCheck t).sto = s.sto ∧
      (s.holdCheck t).hli.response = s.hli.response ∧ (s.holdCheck t).hli.line = s.hli.line ∧
      (s.holdCheck t).hli.sent = s.hli.sent ∧ (s.holdCheck t).hli.ready = s.hli.ready ∧
      (s.holdCheck t).hli.rest = s.hli.rest ∧ (s.holdCheck t).pending = s.pending := by
  simp only [State.holdCheck]; (repeat' split) <;> simp

@[simp] theorem State.driverChecks_frame (s : State) :
      s.driverChecks.now = s.now ∧ s.driverChecks.inReset = s.inReset ∧
      s.driverChecks.installLock = s.installLock ∧ s.driverChecks.cfg = s.cfg ∧ s.driverChecks.sen = s.sen ∧
      s.driverChecks.fan.fans = s.fan.fans ∧ s.driverChecks.fan.profile = s.fan.profile ∧
      s.driverChecks.fan.test = s.fan.test ∧ s.driverChecks.tsv = s.tsv ∧ s.driverChecks.lel = s.lel ∧
      s.driverChecks.sto = s.sto ∧ s.driverChecks.hli.response = s.hli.response ∧
      s.driverChecks.hli.line = s.hli.line ∧ s.driverChecks.hli.sent = s.hli.sent ∧
      s.driverChecks.hli.ready = s.hli.ready ∧ s.driverChecks.hli.rest = s.hli.rest ∧
      s.driverChecks.pending = s.pending := by
  simp only [State.driverChecks]; simp

@[simp] theorem State.startCorrection_frame (z : Int) (s : State) :
      (s.startCorrection z).now = s.now ∧ (s.startCorrection z).inReset = s.inReset ∧
      (s.startCorrection z).installLock = s.installLock ∧ (s.startCorrection z).cfg = s.cfg ∧
      (s.startCorrection z).sen = s.sen ∧ (s.startCorrection z).fan.fans = s.fan.fans ∧
      (s.startCorrection z).fan.profile = s.fan.profile ∧ (s.startCorrection z).fan.test = s.fan.test ∧
      (s.startCorrection z).tsv = s.tsv ∧ (s.startCorrection z).lel = s.lel ∧
      (s.startCorrection z).axc.forced = s.axc.forced ∧ (s.startCorrection z).axc.held = s.axc.held ∧
      (s.startCorrection z).sto = s.sto ∧ (s.startCorrection z).hli.response = s.hli.response ∧
      (s.startCorrection z).hli.line = s.hli.line ∧ (s.startCorrection z).hli.sent = s.hli.sent ∧
      (s.startCorrection z).hli.ready = s.hli.ready ∧ (s.startCorrection z).hli.rest = s.hli.rest ∧
      (s.startCorrection z).pending = s.pending := by
  simp only [State.startCorrection]; (repeat' split) <;> simp

@[simp] theorem State.desireDrift_frame (s : State) :
      s.desireDrift.now = s.now ∧ s.desireDrift.inReset = s.inReset ∧
      s.desireDrift.installLock = s.installLock ∧ s.desireDrift.cfg = s.cfg ∧ s.desireDrift.sen = s.sen ∧
      s.desireDrift.fan = s.fan ∧ s.desireDrift.tsv = s.tsv ∧ s.desireDrift.lel = s.lel ∧
      s.desireDrift.axc = s.axc ∧ s.desireDrift.geo = s.geo ∧ s.desireDrift.mse = s.mse ∧
      s.desireDrift.scp = s.scp ∧ s.desireDrift.sto = s.sto ∧ s.desireDrift.hli = s.hli ∧
      s.desireDrift.pending = s.pending := by
  simp only [State.desireDrift]; (repeat' split) <;> simp

@[simp] theorem State.driftEvaluation_frame (b : Bool) (s : State) :
      (s.driftEvaluation b).now = s.now ∧ (s.driftEvaluation b).inReset = s.inReset ∧
      (s.driftEvaluation b).installLock = s.installLock ∧ (s.driftEvaluation b).cfg = s.cfg ∧
      (s.driftEvaluation b).sen = s.sen ∧ (s.driftEvaluation b).fan.fans = s.fan.fans ∧
      (s.driftEvaluation b).fan.profile = s.fan.profile ∧ (s.driftEvaluation b).fan.test = s.fan.test ∧
      (s.driftEvaluation b).tsv = s.tsv ∧ (s.driftEvaluation b).lel = s.lel ∧
      (s.driftEvaluation b).axc.forced = s.axc.forced ∧ (s.driftEvaluation b).axc.held = s.axc.held ∧
      (s.driftEvaluation b).sto = s.sto ∧ (s.driftEvaluation b).hli.response = s.hli.response ∧
      (s.driftEvaluation b).hli.line = s.hli.line ∧ (s.driftEvaluation b).hli.sent = s.hli.sent ∧
      (s.driftEvaluation b).hli.ready = s.hli.ready ∧ (s.driftEvaluation b).hli.rest = s.hli.rest ∧
      (s.driftEvaluation b).pending = s.pending := by
  simp only [State.driftEvaluation]; (repeat' split) <;> simp

/-! ## Temperature channels -/

@[simp] theorem State.sampleChannel_frame (th : Thermistors) (c : Chan) (s : State) :
      (s.sampleChannel th c).now = s.now ∧ (s.sampleChannel th c).inReset = s.inReset ∧
      (s.sampleChannel th c).installLock = s.installLock ∧ (s.sampleChannel th c).cfg = s.cfg ∧
      (s.sampleChannel th c).fan = s.fan ∧ (s.sampleChannel th c).tsv = s.tsv ∧
      (s.sampleChannel th c).lel = s.lel ∧ (s.sampleChannel th c).axc = s.axc ∧
      (s.sampleChannel th c).lnc = s.lnc ∧ (s.sampleChannel th c).geo = s.geo ∧
      (s.sampleChannel th c).mse = s.mse ∧ (s.sampleChannel th c).scp = s.scp ∧
      (s.sampleChannel th c).sto = s.sto ∧ (s.sampleChannel th c).hli.response = s.hli.response ∧
      (s.sampleChannel th c).hli.line = s.hli.line ∧ (s.sampleChannel th c).hli.sent = s.hli.sent ∧
      (s.sampleChannel th c).hli.ready = s.hli.ready ∧ (s.sampleChannel th c).hli.rest = s.hli.rest ∧
      (s.sampleChannel th c).pending = s.pending := by
  simp only [State.sampleChannel]; (repeat' split) <;> simp

@[simp] theorem State.samplePoint_frame (th : Thermistors) (s : State) :
      (s.samplePoint th).now = s.now ∧ (s.samplePoint th).inReset = s.inReset ∧
      (s.samplePoint th).installLock = s.installLock ∧ (s.samplePoint th).cfg = s.cfg ∧
      (s.samplePoint th).fan = s.fan ∧ (s.samplePoint th).tsv = s.tsv ∧ (s.samplePoint th).lel = s.lel ∧
      (s.samplePoint th).axc = s.axc ∧ (s.samplePoint th).lnc = s.lnc ∧ (s.samplePoint th).geo = s.geo ∧
      (s.samplePoint th).mse = s.mse ∧ (s.samplePoint th).scp = s.scp ∧ (s.samplePoint th).sto = s.sto ∧
      (s.samplePoint th).hli.response = s.hli.response ∧ (s.samplePoint th).hli.line = s.hli.line ∧
      (s.samplePoint th).hli.sent = s.hli.sent ∧ (s.samplePoint th).hli.ready = s.hli.ready ∧
      (s.samplePoint th).hli.rest = s.hli.rest ∧ (s.samplePoint th).pending = s.pending := by
  simp only [State.samplePoint, Chan.list, List.foldl]; simp

@[simp] theorem State.setPresence_frame (c : Chan) (b : Bool) (s : State) :
      (s.setPresence c b).now = s.now ∧ (s.setPresence c b).inReset = s.inReset ∧
      (s.setPresence c b).installLock = s.installLock ∧ (s.setPresence c b).cfg = s.cfg ∧
      (s.setPresence c b).fan = s.fan ∧ (s.setPresence c b).tsv = s.tsv ∧ (s.setPresence c b).lel = s.lel ∧
      (s.setPresence c b).axc = s.axc ∧ (s.setPresence c b).lnc = s.lnc ∧ (s.setPresence c b).geo = s.geo ∧
      (s.setPresence c b).mse = s.mse ∧ (s.setPresence c b).scp = s.scp ∧ (s.setPresence c b).sto = s.sto ∧
      (s.setPresence c b).hli.response = s.hli.response ∧ (s.setPresence c b).hli.line = s.hli.line ∧
      (s.setPresence c b).hli.sent = s.hli.sent ∧ (s.setPresence c b).hli.ready = s.hli.ready ∧
      (s.setPresence c b).hli.rest = s.hli.rest ∧ (s.setPresence c b).pending = s.pending := by
  simp only [State.setPresence]; (repeat' split) <;> simp

@[simp] theorem State.presenceFrom_frame (n : Nat) (s : State) :
      (s.presenceFrom n).now = s.now ∧ (s.presenceFrom n).inReset = s.inReset ∧
      (s.presenceFrom n).installLock = s.installLock ∧ (s.presenceFrom n).cfg = s.cfg ∧
      (s.presenceFrom n).fan = s.fan ∧ (s.presenceFrom n).tsv = s.tsv ∧ (s.presenceFrom n).lel = s.lel ∧
      (s.presenceFrom n).axc = s.axc ∧ (s.presenceFrom n).lnc = s.lnc ∧ (s.presenceFrom n).geo = s.geo ∧
      (s.presenceFrom n).mse = s.mse ∧ (s.presenceFrom n).scp = s.scp ∧ (s.presenceFrom n).sto = s.sto ∧
      (s.presenceFrom n).hli.response = s.hli.response ∧ (s.presenceFrom n).hli.line = s.hli.line ∧
      (s.presenceFrom n).hli.sent = s.hli.sent ∧ (s.presenceFrom n).hli.ready = s.hli.ready ∧
      (s.presenceFrom n).hli.rest = s.hli.rest ∧ (s.presenceFrom n).pending = s.pending := by
  simp only [State.presenceFrom]; simp

@[simp] theorem State.holdValue_frame (c : Chan) (v : Option Temp) (s : State) :
      (s.holdValue c v).now = s.now ∧ (s.holdValue c v).inReset = s.inReset ∧
      (s.holdValue c v).installLock = s.installLock ∧ (s.holdValue c v).cfg = s.cfg ∧
      (s.holdValue c v).fan = s.fan ∧ (s.holdValue c v).tsv = s.tsv ∧ (s.holdValue c v).lel = s.lel ∧
      (s.holdValue c v).axc = s.axc ∧ (s.holdValue c v).lnc = s.lnc ∧ (s.holdValue c v).geo = s.geo ∧
      (s.holdValue c v).mse = s.mse ∧ (s.holdValue c v).scp = s.scp ∧ (s.holdValue c v).sto = s.sto ∧
      (s.holdValue c v).hli = s.hli ∧ (s.holdValue c v).pending = s.pending := by
  simp only [State.holdValue]; (repeat' split) <;> simp

@[simp] theorem State.takeTemperatures_frame (f : TelemetryFrame) (s : State) :
      (s.takeTemperatures f).now = s.now ∧ (s.takeTemperatures f).inReset = s.inReset ∧
      (s.takeTemperatures f).installLock = s.installLock ∧ (s.takeTemperatures f).cfg = s.cfg ∧
      (s.takeTemperatures f).fan = s.fan ∧ (s.takeTemperatures f).tsv = s.tsv ∧
      (s.takeTemperatures f).lel = s.lel ∧ (s.takeTemperatures f).axc = s.axc ∧
      (s.takeTemperatures f).lnc = s.lnc ∧ (s.takeTemperatures f).geo = s.geo ∧
      (s.takeTemperatures f).mse = s.mse ∧ (s.takeTemperatures f).scp = s.scp ∧
      (s.takeTemperatures f).sto = s.sto ∧ (s.takeTemperatures f).hli = s.hli ∧
      (s.takeTemperatures f).pending = s.pending := by
  simp only [State.takeTemperatures]; simp

@[simp] theorem State.discardHeld_frame (s : State) :
      s.discardHeld.now = s.now ∧ s.discardHeld.inReset = s.inReset ∧
      s.discardHeld.installLock = s.installLock ∧ s.discardHeld.cfg = s.cfg ∧ s.discardHeld.fan = s.fan ∧
      s.discardHeld.tsv = s.tsv ∧ s.discardHeld.lel = s.lel ∧ s.discardHeld.axc = s.axc ∧
      s.discardHeld.lnc = s.lnc ∧ s.discardHeld.geo = s.geo ∧ s.discardHeld.mse = s.mse ∧
      s.discardHeld.scp = s.scp ∧ s.discardHeld.sto = s.sto ∧ s.discardHeld.hli = s.hli ∧
      s.discardHeld.pending = s.pending := by
  simp only [State.discardHeld]; simp

/-! ## Installation and store -/

@[simp] theorem State.takeInstall_frame (p : Install) (b : Bool) (s : State) :
      (s.takeInstall p b).now = s.now ∧ (s.takeInstall p b).inReset = s.inReset ∧
      (s.takeInstall p b).installLock = s.installLock ∧ (s.takeInstall p b).sen = s.sen ∧
      (s.takeInstall p b).fan.profile = s.fan.profile ∧ (s.takeInstall p b).fan.test = s.fan.test ∧
      (s.takeInstall p b).lel = s.lel ∧ (s.takeInstall p b).axc.forced = s.axc.forced ∧
      (s.takeInstall p b).axc.held = s.axc.held ∧ (s.takeInstall p b).lnc = s.lnc ∧
      (s.takeInstall p b).geo = s.geo ∧ (s.takeInstall p b).mse = s.mse ∧ (s.takeInstall p b).scp = s.scp ∧
      (s.takeInstall p b).sto = s.sto ∧ (s.takeInstall p b).hli = s.hli ∧
      (s.takeInstall p b).pending = s.pending := by
  simp only [State.takeInstall]; simp

@[simp] theorem State.geometryOnInstall_frame (c : CfgBlock) (s : State) :
      (s.geometryOnInstall c).now = s.now ∧ (s.geometryOnInstall c).inReset = s.inReset ∧
      (s.geometryOnInstall c).installLock = s.installLock ∧ (s.geometryOnInstall c).cfg = s.cfg ∧
      (s.geometryOnInstall c).sen = s.sen ∧ (s.geometryOnInstall c).fan = s.fan ∧
      (s.geometryOnInstall c).tsv = s.tsv ∧ (s.geometryOnInstall c).lel = s.lel ∧
      (s.geometryOnInstall c).axc = s.axc ∧ (s.geometryOnInstall c).lnc = s.lnc ∧
      (s.geometryOnInstall c).sto = s.sto ∧ (s.geometryOnInstall c).hli.response = s.hli.response ∧
      (s.geometryOnInstall c).hli.line = s.hli.line ∧ (s.geometryOnInstall c).hli.sent = s.hli.sent ∧
      (s.geometryOnInstall c).hli.ready = s.hli.ready ∧ (s.geometryOnInstall c).hli.rest = s.hli.rest ∧
      (s.geometryOnInstall c).pending = s.pending := by
  simp only [State.geometryOnInstall]; (repeat' split) <;> simp

@[simp] theorem State.startProgramming_frame (r : RecordFields) (n : Nat) (s : State) :
      (s.startProgramming r n).now = s.now ∧ (s.startProgramming r n).inReset = s.inReset ∧
      (s.startProgramming r n).installLock = s.installLock ∧ (s.startProgramming r n).cfg = s.cfg ∧
      (s.startProgramming r n).sen = s.sen ∧ (s.startProgramming r n).fan = s.fan ∧
      (s.startProgramming r n).tsv = s.tsv ∧ (s.startProgramming r n).lel = s.lel ∧
      (s.startProgramming r n).axc = s.axc ∧ (s.startProgramming r n).lnc = s.lnc ∧
      (s.startProgramming r n).geo = s.geo ∧ (s.startProgramming r n).mse = s.mse ∧
      (s.startProgramming r n).scp = s.scp ∧ (s.startProgramming r n).hli = s.hli ∧
      (s.startProgramming r n).pending = s.pending := by
  simp only [State.startProgramming]; simp

@[simp] theorem State.endProgramming_frame (b : Bool) (p : Programming) (s : State) :
      (s.endProgramming b p).now = s.now ∧ (s.endProgramming b p).inReset = s.inReset ∧
      (s.endProgramming b p).installLock = s.installLock ∧ (s.endProgramming b p).cfg = s.cfg ∧
      (s.endProgramming b p).sen = s.sen ∧ (s.endProgramming b p).fan = s.fan ∧
      (s.endProgramming b p).tsv = s.tsv ∧ (s.endProgramming b p).lel = s.lel ∧
      (s.endProgramming b p).axc = s.axc ∧ (s.endProgramming b p).lnc = s.lnc ∧
      (s.endProgramming b p).geo = s.geo ∧ (s.endProgramming b p).mse = s.mse ∧
      (s.endProgramming b p).scp = s.scp ∧ (s.endProgramming b p).hli.response = s.hli.response ∧
      (s.endProgramming b p).hli.line = s.hli.line ∧ (s.endProgramming b p).hli.sent = s.hli.sent ∧
      (s.endProgramming b p).hli.ready = s.hli.ready ∧ (s.endProgramming b p).hli.rest = s.hli.rest ∧
      (s.endProgramming b p).pending = s.pending := by
  simp only [State.endProgramming]; (repeat' split) <;> simp

@[simp] theorem State.takeWorking_frame (w : Working) (s : State) :
      (s.takeWorking w).now = s.now ∧ (s.takeWorking w).inReset = s.inReset ∧
      (s.takeWorking w).installLock = s.installLock ∧ (s.takeWorking w).cfg = s.cfg ∧
      (s.takeWorking w).sen = s.sen ∧ (s.takeWorking w).fan.allowance = s.fan.allowance ∧
      (s.takeWorking w).fan.tailDue = s.fan.tailDue ∧ (s.takeWorking w).fan.test = s.fan.test ∧
      (s.takeWorking w).axc = s.axc ∧ (s.takeWorking w).mse = s.mse ∧ (s.takeWorking w).scp = s.scp ∧
      (s.takeWorking w).sto = s.sto ∧ (s.takeWorking w).hli = s.hli ∧ (s.takeWorking w).pending = s.pending := by
  simp only [State.takeWorking]; simp

@[simp] theorem State.startUpHoming_frame (s : State) :
      s.startUpHoming.now = s.now ∧ s.startUpHoming.inReset = s.inReset ∧
      s.startUpHoming.installLock = s.installLock ∧ s.startUpHoming.sen = s.sen ∧
      s.startUpHoming.fan.fans = s.fan.fans ∧ s.startUpHoming.fan.profile = s.fan.profile ∧
      s.startUpHoming.fan.test = s.fan.test ∧ s.startUpHoming.tsv = s.tsv ∧ s.startUpHoming.lel = s.lel ∧
      s.startUpHoming.axc.forced = s.axc.forced ∧ s.startUpHoming.axc.held = s.axc.held ∧
      s.startUpHoming.geo = s.geo ∧ s.startUpHoming.mse = s.mse ∧ s.startUpHoming.scp = s.scp ∧
      s.startUpHoming.sto = s.sto ∧ s.startUpHoming.hli = s.hli ∧ s.startUpHoming.pending = s.pending := by
  simp only [State.startUpHoming]; (repeat' split) <;> simp

/-! ## The scaler port -/

@[simp] theorem State.swap_frame (c : SwapCause) (s : State) :
      (s.swap c).now = s.now ∧ (s.swap c).inReset = s.inReset ∧ (s.swap c).installLock = s.installLock ∧
      (s.swap c).cfg = s.cfg ∧ (s.swap c).sen = s.sen ∧ (s.swap c).fan = s.fan ∧ (s.swap c).tsv = s.tsv ∧
      (s.swap c).lel = s.lel ∧ (s.swap c).axc = s.axc ∧ (s.swap c).lnc = s.lnc ∧ (s.swap c).geo = s.geo ∧
      (s.swap c).mse = s.mse ∧ (s.swap c).sto = s.sto ∧ (s.swap c).hli.response = s.hli.response ∧
      (s.swap c).hli.line = s.hli.line ∧ (s.swap c).hli.sent = s.hli.sent ∧
      (s.swap c).hli.ready = s.hli.ready ∧ (s.swap c).hli.rest = s.hli.rest ∧ (s.swap c).pending = s.pending := by
  simp only [State.swap]; simp

@[simp] theorem State.takePendingSwap_frame (s : State) :
      s.takePendingSwap.now = s.now ∧ s.takePendingSwap.inReset = s.inReset ∧
      s.takePendingSwap.installLock = s.installLock ∧ s.takePendingSwap.cfg = s.cfg ∧
      s.takePendingSwap.sen = s.sen ∧ s.takePendingSwap.fan = s.fan ∧ s.takePendingSwap.tsv = s.tsv ∧
      s.takePendingSwap.lel = s.lel ∧ s.takePendingSwap.axc = s.axc ∧ s.takePendingSwap.lnc = s.lnc ∧
      s.takePendingSwap.geo = s.geo ∧ s.takePendingSwap.mse = s.mse ∧ s.takePendingSwap.sto = s.sto ∧
      s.takePendingSwap.hli.response = s.hli.response ∧ s.takePendingSwap.hli.line = s.hli.line ∧
      s.takePendingSwap.hli.sent = s.hli.sent ∧ s.takePendingSwap.hli.ready = s.hli.ready ∧
      s.takePendingSwap.hli.rest = s.hli.rest ∧ s.takePendingSwap.pending = s.pending := by
  simp only [State.takePendingSwap]; (repeat' split) <;> simp

@[simp] theorem State.swapWithoutSync_frame (s : State) :
      s.swapWithoutSync.now = s.now ∧ s.swapWithoutSync.inReset = s.inReset ∧
      s.swapWithoutSync.installLock = s.installLock ∧ s.swapWithoutSync.cfg = s.cfg ∧
      s.swapWithoutSync.sen = s.sen ∧ s.swapWithoutSync.fan = s.fan ∧ s.swapWithoutSync.tsv = s.tsv ∧
      s.swapWithoutSync.lel = s.lel ∧ s.swapWithoutSync.axc = s.axc ∧ s.swapWithoutSync.lnc = s.lnc ∧
      s.swapWithoutSync.geo = s.geo ∧ s.swapWithoutSync.mse = s.mse ∧ s.swapWithoutSync.sto = s.sto ∧
      s.swapWithoutSync.hli.response = s.hli.response ∧ s.swapWithoutSync.hli.line = s.hli.line ∧
      s.swapWithoutSync.hli.sent = s.hli.sent ∧ s.swapWithoutSync.hli.ready = s.hli.ready ∧
      s.swapWithoutSync.hli.rest = s.hli.rest ∧ s.swapWithoutSync.pending = s.pending := by
  simp only [State.swapWithoutSync]; (repeat' split) <;> simp

@[simp] theorem State.beginBurst_frame (b : List Byte) (s : State) :
      (s.beginBurst b).now = s.now ∧ (s.beginBurst b).inReset = s.inReset ∧
      (s.beginBurst b).installLock = s.installLock ∧ (s.beginBurst b).cfg = s.cfg ∧
      (s.beginBurst b).sen = s.sen ∧ (s.beginBurst b).fan = s.fan ∧ (s.beginBurst b).tsv = s.tsv ∧
      (s.beginBurst b).lel = s.lel ∧ (s.beginBurst b).axc = s.axc ∧ (s.beginBurst b).lnc = s.lnc ∧
      (s.beginBurst b).geo = s.geo ∧ (s.beginBurst b).mse = s.mse ∧ (s.beginBurst b).sto = s.sto ∧
      (s.beginBurst b).hli = s.hli ∧ (s.beginBurst b).pending = s.pending := by
  simp only [State.beginBurst]; simp

@[simp] theorem State.endBurst_frame (x : ScalerLine) (s : State) :
      (s.endBurst x).now = s.now ∧ (s.endBurst x).inReset = s.inReset ∧
      (s.endBurst x).installLock = s.installLock ∧ (s.endBurst x).cfg = s.cfg ∧ (s.endBurst x).sen = s.sen ∧
      (s.endBurst x).fan = s.fan ∧ (s.endBurst x).tsv = s.tsv ∧ (s.endBurst x).lel = s.lel ∧
      (s.endBurst x).axc = s.axc ∧ (s.endBurst x).lnc = s.lnc ∧ (s.endBurst x).geo = s.geo ∧
      (s.endBurst x).mse = s.mse ∧ (s.endBurst x).sto = s.sto ∧ (s.endBurst x).hli.response = s.hli.response ∧
      (s.endBurst x).hli.line = s.hli.line ∧ (s.endBurst x).hli.sent = s.hli.sent ∧
      (s.endBurst x).hli.ready = s.hli.ready ∧ (s.endBurst x).hli.rest = s.hli.rest ∧
      (s.endBurst x).pending = s.pending := by
  simp only [State.endBurst]; simp

@[simp] theorem State.deselect_frame (b : List Byte) (s : State) :
      (s.deselect b).now = s.now ∧ (s.deselect b).inReset = s.inReset ∧
      (s.deselect b).installLock = s.installLock ∧ (s.deselect b).cfg = s.cfg ∧ (s.deselect b).sen = s.sen ∧
      (s.deselect b).fan = s.fan ∧ (s.deselect b).tsv = s.tsv ∧ (s.deselect b).lel = s.lel ∧
      (s.deselect b).axc = s.axc ∧ (s.deselect b).lnc = s.lnc ∧ (s.deselect b).geo = s.geo ∧
      (s.deselect b).mse = s.mse ∧ (s.deselect b).sto = s.sto ∧ (s.deselect b).hli.response = s.hli.response ∧
      (s.deselect b).hli.line = s.hli.line ∧ (s.deselect b).hli.sent = s.hli.sent ∧
      (s.deselect b).hli.ready = s.hli.ready ∧ (s.deselect b).hli.rest = s.hli.rest ∧
      (s.deselect b).pending = s.pending := by
  simp only [State.deselect]; (repeat' split) <;> simp

@[simp] theorem State.syncEdge_frame (s : State) :
      s.syncEdge.now = s.now ∧ s.syncEdge.inReset = s.inReset ∧ s.syncEdge.installLock = s.installLock ∧
      s.syncEdge.cfg = s.cfg ∧ s.syncEdge.sen = s.sen ∧ s.syncEdge.fan = s.fan ∧ s.syncEdge.tsv = s.tsv ∧
      s.syncEdge.lel = s.lel ∧ s.syncEdge.axc = s.axc ∧ s.syncEdge.lnc = s.lnc ∧ s.syncEdge.geo = s.geo ∧
      s.syncEdge.mse = s.mse ∧ s.syncEdge.sto = s.sto ∧ s.syncEdge.hli.response = s.hli.response ∧
      s.syncEdge.hli.line = s.hli.line ∧ s.syncEdge.hli.sent = s.hli.sent ∧
      s.syncEdge.hli.ready = s.hli.ready ∧ s.syncEdge.hli.rest = s.hli.rest ∧ s.syncEdge.pending = s.pending := by
  simp only [State.syncEdge]; (repeat' split) <;> simp

@[simp] theorem State.syncLost_frame (s : State) :
      s.syncLost.now = s.now ∧ s.syncLost.inReset = s.inReset ∧ s.syncLost.installLock = s.installLock ∧
      s.syncLost.cfg = s.cfg ∧ s.syncLost.sen = s.sen ∧ s.syncLost.fan = s.fan ∧ s.syncLost.tsv = s.tsv ∧
      s.syncLost.lel = s.lel ∧ s.syncLost.axc = s.axc ∧ s.syncLost.lnc = s.lnc ∧ s.syncLost.geo = s.geo ∧
      s.syncLost.mse = s.mse ∧ s.syncLost.sto = s.sto ∧ s.syncLost.hli.response = s.hli.response ∧
      s.syncLost.hli.line = s.hli.line ∧ s.syncLost.hli.sent = s.hli.sent ∧
      s.syncLost.hli.ready = s.hli.ready ∧ s.syncLost.hli.rest = s.hli.rest ∧ s.syncLost.pending = s.pending := by
  simp only [State.syncLost]; simp

@[simp] theorem State.completeBuild_frame (b : Build) (s : State) :
      (s.completeBuild b).now = s.now ∧ (s.completeBuild b).inReset = s.inReset ∧
      (s.completeBuild b).installLock = s.installLock ∧ (s.completeBuild b).cfg = s.cfg ∧
      (s.completeBuild b).sen = s.sen ∧ (s.completeBuild b).fan = s.fan ∧ (s.completeBuild b).tsv = s.tsv ∧
      (s.completeBuild b).lel = s.lel ∧ (s.completeBuild b).axc = s.axc ∧ (s.completeBuild b).lnc = s.lnc ∧
      (s.completeBuild b).geo = s.geo ∧ (s.completeBuild b).sto = s.sto ∧
      (s.completeBuild b).hli.response = s.hli.response ∧ (s.completeBuild b).hli.line = s.hli.line ∧
      (s.completeBuild b).hli.sent = s.hli.sent ∧ (s.completeBuild b).hli.ready = s.hli.ready ∧
      (s.completeBuild b).hli.rest = s.hli.rest ∧ (s.completeBuild b).pending = s.pending := by
  simp only [State.completeBuild]; (repeat' split) <;> simp

/-! ## The host link -/

@[simp] theorem State.enterRest_frame (s : State) :
      s.enterRest.now = s.now ∧ s.enterRest.inReset = s.inReset ∧ s.enterRest.installLock = s.installLock ∧
      s.enterRest.cfg = s.cfg ∧ s.enterRest.sen = s.sen ∧ s.enterRest.fan.profile = s.fan.profile ∧
      s.enterRest.fan.test = s.fan.test ∧ s.enterRest.tsv = s.tsv ∧ s.enterRest.lel = s.lel ∧
      s.enterRest.axc.forced = s.axc.forced ∧ s.enterRest.axc.held = s.axc.held ∧ s.enterRest.lnc = s.lnc ∧
      s.enterRest.geo = s.geo ∧ s.enterRest.mse = s.mse ∧ s.enterRest.scp = s.scp ∧ s.enterRest.sto = s.sto ∧
      s.enterRest.hli.response = s.hli.response ∧ s.enterRest.hli.line = s.hli.line ∧
      s.enterRest.hli.sent = s.hli.sent ∧ s.enterRest.hli.queue = s.hli.queue ∧
      s.enterRest.hli.ready = s.hli.ready ∧ s.enterRest.pending = s.pending := by
  simp only [State.enterRest]; simp

/-! ## What the link and the period bring about -/

@[simp] theorem State.acceptAdvert_frame (x : AdvertFrame) (s : State) :
      (s.acceptAdvert x).now = s.now ∧ (s.acceptAdvert x).inReset = s.inReset ∧
      (s.acceptAdvert x).installLock = s.installLock ∧ (s.acceptAdvert x).cfg = s.cfg ∧
      (s.acceptAdvert x).fan = s.fan ∧ (s.acceptAdvert x).axc = s.axc ∧ (s.acceptAdvert x).lnc = s.lnc ∧
      (s.acceptAdvert x).geo = s.geo ∧ (s.acceptAdvert x).mse = s.mse ∧ (s.acceptAdvert x).scp = s.scp ∧
      (s.acceptAdvert x).sto = s.sto ∧ (s.acceptAdvert x).hli.response = s.hli.response ∧
      (s.acceptAdvert x).hli.line = s.hli.line ∧ (s.acceptAdvert x).hli.sent = s.hli.sent ∧
      (s.acceptAdvert x).hli.ready = s.hli.ready ∧ (s.acceptAdvert x).hli.rest = s.hli.rest ∧
      (s.acceptAdvert x).pending = s.pending := by
  simp only [State.acceptAdvert]; (repeat' split) <;> simp

@[simp] theorem State.takeAdvert_frame (x : AdvertFrame) (s : State) :
      (s.takeAdvert x).now = s.now ∧ (s.takeAdvert x).inReset = s.inReset ∧
      (s.takeAdvert x).installLock = s.installLock ∧ (s.takeAdvert x).cfg = s.cfg ∧
      (s.takeAdvert x).fan = s.fan ∧ (s.takeAdvert x).axc = s.axc ∧ (s.takeAdvert x).lnc = s.lnc ∧
      (s.takeAdvert x).geo = s.geo ∧ (s.takeAdvert x).mse = s.mse ∧ (s.takeAdvert x).scp = s.scp ∧
      (s.takeAdvert x).sto = s.sto ∧ (s.takeAdvert x).hli.response = s.hli.response ∧
      (s.takeAdvert x).hli.line = s.hli.line ∧ (s.takeAdvert x).hli.sent = s.hli.sent ∧
      (s.takeAdvert x).hli.ready = s.hli.ready ∧ (s.takeAdvert x).hli.rest = s.hli.rest ∧
      (s.takeAdvert x).pending = s.pending := by
  simp only [State.takeAdvert]; (repeat' split) <;> simp

@[simp] theorem State.acknowledge_frame (b : Byte) (s : State) :
      (s.acknowledge b).now = s.now ∧ (s.acknowledge b).inReset = s.inReset ∧
      (s.acknowledge b).installLock = s.installLock ∧ (s.acknowledge b).cfg = s.cfg ∧
      (s.acknowledge b).sen = s.sen ∧ (s.acknowledge b).fan = s.fan ∧ (s.acknowledge b).tsv = s.tsv ∧
      (s.acknowledge b).axc = s.axc ∧ (s.acknowledge b).lnc = s.lnc ∧ (s.acknowledge b).geo = s.geo ∧
      (s.acknowledge b).mse = s.mse ∧ (s.acknowledge b).scp = s.scp ∧ (s.acknowledge b).sto = s.sto ∧
      (s.acknowledge b).hli.response = s.hli.response ∧ (s.acknowledge b).hli.line = s.hli.line ∧
      (s.acknowledge b).hli.sent = s.hli.sent ∧ (s.acknowledge b).hli.ready = s.hli.ready ∧
      (s.acknowledge b).hli.rest = s.hli.rest ∧ (s.acknowledge b).pending = s.pending := by
  simp only [State.acknowledge]; (repeat' split) <;> simp

@[simp] theorem State.watchDrive_frame (n : Nat) (s : State) :
      (s.watchDrive n).now = s.now ∧ (s.watchDrive n).inReset = s.inReset ∧
      (s.watchDrive n).installLock = s.installLock ∧ (s.watchDrive n).cfg = s.cfg ∧
      (s.watchDrive n).sen = s.sen ∧ (s.watchDrive n).fan.profile = s.fan.profile ∧
      (s.watchDrive n).fan.allowance = s.fan.allowance ∧ (s.watchDrive n).fan.tailDue = s.fan.tailDue ∧
      (s.watchDrive n).axc = s.axc ∧ (s.watchDrive n).lnc = s.lnc ∧ (s.watchDrive n).geo = s.geo ∧
      (s.watchDrive n).mse = s.mse ∧ (s.watchDrive n).scp = s.scp ∧ (s.watchDrive n).sto = s.sto ∧
      (s.watchDrive n).hli.response = s.hli.response ∧ (s.watchDrive n).hli.line = s.hli.line ∧
      (s.watchDrive n).hli.sent = s.hli.sent ∧ (s.watchDrive n).hli.ready = s.hli.ready ∧
      (s.watchDrive n).pending = s.pending := by
  simp only [State.watchDrive]; (repeat' split) <;> simp

@[simp] theorem State.acceptTelemetry_frame (f : TelemetryFrame) (s : State) :
      (s.acceptTelemetry f).now = s.now ∧ (s.acceptTelemetry f).inReset = s.inReset ∧
      (s.acceptTelemetry f).installLock = s.installLock ∧ (s.acceptTelemetry f).cfg = s.cfg ∧
      (s.acceptTelemetry f).fan.profile = s.fan.profile ∧
      (s.acceptTelemetry f).fan.allowance = s.fan.allowance ∧
      (s.acceptTelemetry f).fan.tailDue = s.fan.tailDue ∧ (s.acceptTelemetry f).axc = s.axc ∧
      (s.acceptTelemetry f).lnc = s.lnc ∧ (s.acceptTelemetry f).geo = s.geo ∧
      (s.acceptTelemetry f).mse = s.mse ∧ (s.acceptTelemetry f).scp = s.scp ∧
      (s.acceptTelemetry f).sto = s.sto ∧ (s.acceptTelemetry f).hli.response = s.hli.response ∧
      (s.acceptTelemetry f).hli.line = s.hli.line ∧ (s.acceptTelemetry f).hli.sent = s.hli.sent ∧
      (s.acceptTelemetry f).hli.ready = s.hli.ready ∧ (s.acceptTelemetry f).pending = s.pending := by
  simp only [State.acceptTelemetry]; (repeat' split) <;> simp

@[simp] theorem State.takeTelemetry_frame (f : TelemetryFrame) (s : State) :
      (s.takeTelemetry f).now = s.now ∧ (s.takeTelemetry f).inReset = s.inReset ∧
      (s.takeTelemetry f).installLock = s.installLock ∧ (s.takeTelemetry f).cfg = s.cfg ∧
      (s.takeTelemetry f).fan.profile = s.fan.profile ∧ (s.takeTelemetry f).fan.allowance = s.fan.allowance ∧
      (s.takeTelemetry f).fan.tailDue = s.fan.tailDue ∧ (s.takeTelemetry f).axc = s.axc ∧
      (s.takeTelemetry f).lnc = s.lnc ∧ (s.takeTelemetry f).geo = s.geo ∧ (s.takeTelemetry f).mse = s.mse ∧
      (s.takeTelemetry f).scp = s.scp ∧ (s.takeTelemetry f).sto = s.sto ∧
      (s.takeTelemetry f).hli.response = s.hli.response ∧ (s.takeTelemetry f).hli.line = s.hli.line ∧
      (s.takeTelemetry f).hli.sent = s.hli.sent ∧ (s.takeTelemetry f).hli.ready = s.hli.ready ∧
      (s.takeTelemetry f).pending = s.pending := by
  simp only [State.takeTelemetry]; (repeat' split) <;> simp

@[simp] theorem State.loseLink_frame (s : State) :
      s.loseLink.now = s.now ∧ s.loseLink.inReset = s.inReset ∧ s.loseLink.installLock = s.installLock ∧
      s.loseLink.cfg = s.cfg ∧ s.loseLink.fan.profile = s.fan.profile ∧
      s.loseLink.fan.allowance = s.fan.allowance ∧ s.loseLink.fan.tailDue = s.fan.tailDue ∧
      s.loseLink.axc = s.axc ∧ s.loseLink.lnc = s.lnc ∧ s.loseLink.geo = s.geo ∧ s.loseLink.mse = s.mse ∧
      s.loseLink.scp = s.scp ∧ s.loseLink.sto = s.sto ∧ s.loseLink.hli.response = s.hli.response ∧
      s.loseLink.hli.line = s.hli.line ∧ s.loseLink.hli.sent = s.hli.sent ∧
      s.loseLink.hli.ready = s.hli.ready ∧ s.loseLink.pending = s.pending := by
  simp only [State.loseLink]; (repeat' split) <;> simp

@[simp] theorem State.missDeadline_frame (s : State) :
      s.missDeadline.now = s.now ∧ s.missDeadline.inReset = s.inReset ∧
      s.missDeadline.installLock = s.installLock ∧ s.missDeadline.cfg = s.cfg ∧ s.missDeadline.sen = s.sen ∧
      s.missDeadline.fan.profile = s.fan.profile ∧ s.missDeadline.fan.allowance = s.fan.allowance ∧
      s.missDeadline.fan.tailDue = s.fan.tailDue ∧ s.missDeadline.axc = s.axc ∧ s.missDeadline.lnc = s.lnc ∧
      s.missDeadline.geo = s.geo ∧ s.missDeadline.mse = s.mse ∧ s.missDeadline.scp = s.scp ∧
      s.missDeadline.sto = s.sto ∧ s.missDeadline.hli.response = s.hli.response ∧
      s.missDeadline.hli.line = s.hli.line ∧ s.missDeadline.hli.sent = s.hli.sent ∧
      s.missDeadline.hli.ready = s.hli.ready ∧ s.missDeadline.pending = s.pending := by
  simp only [State.missDeadline]; simp

@[simp] theorem State.receiveByte_frame (b : Byte) (s : State) :
      (s.receiveByte b).now = s.now ∧ (s.receiveByte b).inReset = s.inReset ∧
      (s.receiveByte b).installLock = s.installLock ∧ (s.receiveByte b).cfg = s.cfg ∧
      (s.receiveByte b).fan.profile = s.fan.profile ∧ (s.receiveByte b).fan.allowance = s.fan.allowance ∧
      (s.receiveByte b).fan.tailDue = s.fan.tailDue ∧ (s.receiveByte b).axc = s.axc ∧
      (s.receiveByte b).lnc = s.lnc ∧ (s.receiveByte b).geo = s.geo ∧ (s.receiveByte b).mse = s.mse ∧
      (s.receiveByte b).scp = s.scp ∧ (s.receiveByte b).sto = s.sto ∧
      (s.receiveByte b).hli.response = s.hli.response ∧ (s.receiveByte b).hli.line = s.hli.line ∧
      (s.receiveByte b).hli.sent = s.hli.sent ∧ (s.receiveByte b).hli.ready = s.hli.ready ∧
      (s.receiveByte b).pending = s.pending := by
  simp only [State.receiveByte]; (repeat' split) <;> simp

@[simp] theorem State.superviseInOrder_frame (o : PeriodOrder) (b c : Bool) (s : State) :
      (s.superviseInOrder o b c).now = s.now ∧ (s.superviseInOrder o b c).inReset = s.inReset ∧
      (s.superviseInOrder o b c).installLock = s.installLock ∧ (s.superviseInOrder o b c).cfg = s.cfg ∧
      (s.superviseInOrder o b c).sen = s.sen ∧ (s.superviseInOrder o b c).fan.profile = s.fan.profile ∧
      (s.superviseInOrder o b c).fan.allowance = s.fan.allowance ∧
      (s.superviseInOrder o b c).fan.tailDue = s.fan.tailDue ∧ (s.superviseInOrder o b c).axc = s.axc ∧
      (s.superviseInOrder o b c).lnc = s.lnc ∧ (s.superviseInOrder o b c).geo = s.geo ∧
      (s.superviseInOrder o b c).mse = s.mse ∧ (s.superviseInOrder o b c).scp = s.scp ∧
      (s.superviseInOrder o b c).sto = s.sto ∧ (s.superviseInOrder o b c).hli.response = s.hli.response ∧
      (s.superviseInOrder o b c).hli.line = s.hli.line ∧ (s.superviseInOrder o b c).hli.sent = s.hli.sent ∧
      (s.superviseInOrder o b c).hli.ready = s.hli.ready ∧ (s.superviseInOrder o b c).pending = s.pending := by
  simp only [State.superviseInOrder]; (repeat' split) <;> simp

@[simp] theorem State.opticsInOrder_frame (o : PeriodOrder) (b : Bool) (s : State) :
      (s.opticsInOrder o b).now = s.now ∧ (s.opticsInOrder o b).inReset = s.inReset ∧
      (s.opticsInOrder o b).installLock = s.installLock ∧ (s.opticsInOrder o b).cfg = s.cfg ∧
      (s.opticsInOrder o b).sen = s.sen ∧ (s.opticsInOrder o b).fan.fans = s.fan.fans ∧
      (s.opticsInOrder o b).fan.profile = s.fan.profile ∧ (s.opticsInOrder o b).fan.test = s.fan.test ∧
      (s.opticsInOrder o b).tsv = s.tsv ∧ (s.opticsInOrder o b).lel = s.lel ∧
      (s.opticsInOrder o b).sto = s.sto ∧ (s.opticsInOrder o b).hli.response = s.hli.response ∧
      (s.opticsInOrder o b).hli.line = s.hli.line ∧ (s.opticsInOrder o b).hli.sent = s.hli.sent ∧
      (s.opticsInOrder o b).hli.ready = s.hli.ready ∧ (s.opticsInOrder o b).hli.rest = s.hli.rest ∧
      (s.opticsInOrder o b).pending = s.pending := by
  simp only [State.opticsInOrder]; (repeat' split) <;> simp

@[simp] theorem State.periodEnds_frame (th : Thermistors) (o : PeriodOrder) (s : State) :
      (s.periodEnds th o).now = s.now ∧ (s.periodEnds th o).inReset = s.inReset ∧
      (s.periodEnds th o).installLock = s.installLock ∧ (s.periodEnds th o).cfg = s.cfg ∧
      (s.periodEnds th o).fan.profile = s.fan.profile ∧ (s.periodEnds th o).sto = s.sto ∧
      (s.periodEnds th o).hli.response = s.hli.response ∧ (s.periodEnds th o).hli.line = s.hli.line ∧
      (s.periodEnds th o).hli.sent = s.hli.sent ∧ (s.periodEnds th o).hli.ready = s.hli.ready ∧
      (s.periodEnds th o).pending = s.pending := by
  simp only [State.periodEnds]; (repeat' split) <;> simp

end Sys2Proof.Machine
end

