-- ==== Sys2Proof/Laws/Requests.lean ====
section
/-! SUPPORT. What the frame of a command does, said once: a command while RESET_n is low or high, a request frame taken, refused
or answered STARTING, and the state a request acts on. -/

namespace Sys2Proof.Machine

/-- Two states are equal when every block is. -/
theorem State.eq_of_blocks {s t : State} (h : s.now = t.now ∧ s.inReset = t.inReset ∧ s.installLock = t.installLock ∧
    s.cfg = t.cfg ∧ s.sen = t.sen ∧ s.fan = t.fan ∧ s.tsv = t.tsv ∧ s.lel = t.lel ∧ s.axc = t.axc ∧ s.lnc = t.lnc ∧
    s.geo = t.geo ∧ s.mse = t.mse ∧ s.scp = t.scp ∧ s.sto = t.sto ∧ s.hli = t.hli ∧ s.pending = t.pending) : s = t := by
  cases s; cases t; simp_all

/-- Two host link blocks are equal when every field is. -/
theorem HliBlock.eq_of_fields {x y : HliBlock} (h : x.response = y.response ∧ x.line = y.line ∧ x.sent = y.sent ∧
    x.queue = y.queue ∧ x.ready = y.ready ∧ x.rest = y.rest) : x = y := by
  cases x; cases y; simp_all

/-- With RESET_n high a command has its effect. -/
theorem State.performIn_running {r e : State → State} {s : State} (h : s.inReset = false) :
    s.performIn r e = .next (e s) := by simp [State.performIn, h]

/-- While RESET_n is low a command does what it does in reset. -/
theorem State.performIn_inReset {r e : State → State} {s : State} (h : s.inReset = true) :
    s.performIn r e = .next (r s) := by simp [State.performIn, h]

/-- With RESET_n high a command has its effect. -/
theorem State.perform_running {e : State → State} {s : State} (h : s.inReset = false) : s.perform e = .next (e s) :=
  State.performIn_running h

/-- While RESET_n is low such a command does nothing. -/
theorem State.perform_inReset {e : State → State} {s : State} (h : s.inReset = true) : s.perform e = .next s :=
  State.performIn_inReset h

/-- A request frame of at most 60 payload bytes acts on the state with its transaction over and Rest ended. -/
theorem State.performRequest_serving {k : Kind} {p : List Byte} {act : State → State} {s : State} (h : s.Serving)
    (hp : p.length ≤ 60) : s.performRequest k p act = .next (act s.taken) := by
  obtain ⟨h1, h2, h3⟩ := h
  have : ¬ 60 < p.length := by omega
  simp [State.performRequest, State.performIn, State.takeFrame, State.takeRequest, State.taken, h1, h2, h3, this]

/-- The state a request acts on differs from the one before in the line, in Rest and in the fans, and in the fans only where
Rest was in force. -/
theorem State.taken_frame (s : State) :
    s.taken = { s with fan := s.taken.fan, hli := { s.hli with line := .idle, rest := false } } := by
  apply State.eq_of_blocks
  simp only [State.taken, State.endRest_frame, State.lineIdle_keeps_now, State.lineIdle_keeps_inReset,
    State.lineIdle_keeps_installLock, State.lineIdle_keeps_cfg, State.lineIdle_keeps_sen, State.lineIdle_keeps_tsv,
    State.lineIdle_keeps_lel, State.lineIdle_keeps_axc, State.lineIdle_keeps_lnc, State.lineIdle_keeps_geo,
    State.lineIdle_keeps_mse, State.lineIdle_keeps_scp, State.lineIdle_keeps_sto, State.lineIdle_keeps_pending, true_and]
  refine ⟨?_, trivial⟩
  apply HliBlock.eq_of_fields
  simp only [State.endRest]
  split <;> simp_all [State.lineIdle, State.putHost]

@[simp] theorem State.taken_keeps_now (s : State) : s.taken.now = s.now := by rw [s.taken_frame]
@[simp] theorem State.taken_keeps_inReset (s : State) : s.taken.inReset = s.inReset := by rw [s.taken_frame]
@[simp] theorem State.taken_keeps_installLock (s : State) : s.taken.installLock = s.installLock := by rw [s.taken_frame]
@[simp] theorem State.taken_keeps_cfg (s : State) : s.taken.cfg = s.cfg := by rw [s.taken_frame]
@[simp] theorem State.taken_keeps_sen (s : State) : s.taken.sen = s.sen := by rw [s.taken_frame]
@[simp] theorem State.taken_keeps_tsv (s : State) : s.taken.tsv = s.tsv := by rw [s.taken_frame]
@[simp] theorem State.taken_keeps_lel (s : State) : s.taken.lel = s.lel := by rw [s.taken_frame]
@[simp] theorem State.taken_keeps_axc (s : State) : s.taken.axc = s.axc := by rw [s.taken_frame]
@[simp] theorem State.taken_keeps_lnc (s : State) : s.taken.lnc = s.lnc := by rw [s.taken_frame]
@[simp] theorem State.taken_keeps_geo (s : State) : s.taken.geo = s.geo := by rw [s.taken_frame]
@[simp] theorem State.taken_keeps_mse (s : State) : s.taken.mse = s.mse := by rw [s.taken_frame]
@[simp] theorem State.taken_keeps_scp (s : State) : s.taken.scp = s.scp := by rw [s.taken_frame]
@[simp] theorem State.taken_keeps_sto (s : State) : s.taken.sto = s.sto := by rw [s.taken_frame]
@[simp] theorem State.taken_keeps_pending (s : State) : s.taken.pending = s.pending := by rw [s.taken_frame]
@[simp] theorem State.taken_hli (s : State) : s.taken.hli = { s.hli with line := .idle, rest := false } := by
  rw [s.taken_frame]

/-- With Rest not in force the taking of a request changes the line alone. -/
theorem State.taken_awake {s : State} (h : s.hli.rest = false) : s.taken = { s with hli := { s.hli with line := .idle } } := by
  simp [State.taken, State.endRest, h, State.lineIdle, State.putHost]

/-- R190: a payload that fits its form goes to the owning block. -/
theorem State.withForm_fits {α : Type} {k : Kind} {x : α} {act : α → State → State} {s : State} :
    s.withForm k (some x) act = act x s := rfl

/-- R190: a payload that does not fit is refused with INVALID and FORM. -/
theorem State.withForm_misfit {α : Type} {k : Kind} {act : α → State → State} {s : State} :
    s.withForm k none act = s.refuse k .invalid [.form] := rfl

end Sys2Proof.Machine
end

