-- ==== Sys2Proof/Laws/Values.lean ====
section
/-! SUPPORT. What the shared computations of the model can answer: clamped targets, values raised to a minimum, the derate excess
that STATUS reports. -/

namespace Sys2Proof.Machine

theorem clampTo_mem {low high : Int} (h : low ≤ high) (x : Int) : low ≤ clampTo low high x ∧ clampTo low high x ≤ high := by
  unfold clampTo; omega

theorem clampTo_of_mem {low high x : Int} (h : low ≤ x) (k : x ≤ high) : clampTo low high x = x := by
  unfold clampTo; omega

/-- R3: within the travel, the conversion keeps the travel. -/
theorem convert_mem (o : Orientation) (limit : Nat) {p : Int} (h : 0 ≤ p) (k : p ≤ limit) :
    0 ≤ convert o limit p ∧ convert o limit p ≤ limit := by
  cases o <;> simp only [convert] <;> omega

/-- R3: a motor target handed to an axis lies within its travel. -/
theorem State.motorTarget_le (s : State) (a : AxisId) (z : Int) : s.motorTarget a z ≤ (s.axisParams a).travelLimit := by
  have h := clampTo_mem (Int.natCast_nonneg (s.axisParams a).travelLimit) z
  have k := convert_mem s.cfg.orientation (s.axisParams a).travelLimit h.1 h.2
  simp only [State.motorTarget, State.convert]; omega

/-- R12: a commanded duty is 0 still, or at least the minimum. -/
theorem liftDuty_cases (m d : Nat) : (d = 0 ∧ liftDuty m d = 0) ∨ (0 < d ∧ liftDuty m d = max m d) := by
  unfold liftDuty; split <;> omega

/-- R12, R46: an override is raised to a new minimum and never lowered; under the same minimum it is as it was. -/
theorem liftOverride_cases (old new d : Nat) :
    (new = old ∧ liftOverride old new d = d) ∨ (new ≠ old ∧ liftOverride old new d = max new d) := by
  unfold liftOverride; split <;> omega

@[simp] theorem TsvBlock.reportedExcess_protect {t : TsvBlock} (h : t.regime = .protect) : t.reportedExcess = t.excess := by
  simp [TsvBlock.reportedExcess, h]

@[simp] theorem TsvBlock.reportedExcess_other {t : TsvBlock} (h : t.regime ≠ .protect) : t.reportedExcess = none := by
  simp [TsvBlock.reportedExcess, h]

end Sys2Proof.Machine
end

