-- ==== Sys2Proof/Tests/Slice0.lean ====
section
/-! SUPPORT. The model's own tests: the well-formedness checks refusing a term each, commands on small states with the results that
the manual's rules and worked examples give, and states that meet the hypotheses of the statements. -/

namespace Sys2Proof.Tests

open Sys2Proof.Machine

set_option Elab.async false

/-! ## Small states -/

/-- The state a command leaves. -/
def after (c : Instr) (s : State) : State :=
  match exec c s with
  | .next t => t
  | _ => s

/-- After reset and loading of a part with no record, before its first build. -/
def serving : State :=
  { State.reset with hli := { State.reset.hli with ready := true }, sto := { State.reset.sto with st := .idle } }

def inRegime (r : Regime) (s : State) : State :=
  { s with tsv := { s.tsv with regime := r, ceiling := if r = .emergency then 0 else s.tsv.ceiling } }

def withFan (f : FanId) (x : Fan) (s : State) : State := { s with fan := { s.fan with fans := s.fan.fans.set f x } }

def withAxis (a : AxisId) (x : Axis) (s : State) : State := { s with axc := { s.axc with axes := s.axc.axes.set a x } }

def withChan (c : Chan) (x : Channel) (s : State) : State :=
  { s with sen := { s.sen with channels := s.sen.channels.set c x } }

/-- A fan in one state at one duty. -/
def fanIn (st : FanState) (duty : Nat) : Fan := { Fan.reset 0 with st := st, duty := duty }

/-- A referenced axis at rest. -/
def idleAt (pos : Nat) : Axis := { Axis.reset .reduced false with st := .idle, pos := some pos }

/-- An axis in a segment of a move. -/
def movingAt (pos goal target : Nat) (up : Bool) (stopping : Stopping) : Axis :=
  { idleAt pos with
    st := .moving, hold := .full, dirUp := up, order := some (.move target),
    motion := some { goal := goal, run := 1, stopping := stopping } }

/-- Both axes referenced and at rest, at the positions of the recall example (R126). -/
def lensReady : State := withAxis .h (idleAt 3000) (withAxis .v (idleAt 5000) serving)

/-- The recall example after its first step: the executing request with its H target. -/
def recalling : State :=
  let e : Executing := { request := ⟨10#8, .recall, { h := some (.move 4500 false 0), v := none }, none⟩
                         answers := { h := none, v := none } }
  { lensReady with lnc := { lensReady.lnc with executing := some e } }

/-- The level list of the derate and reduction examples. -/
def levels : AdvertFrame := { minDrive := 400, minRunOn := 120, thermals := 2, levels := [400, 550, 700, 850, 1000] }

/-- The link just UP with those levels. -/
def linked : State := after (.advert levels) serving

/-- The reduction example at 0 ms: N is 850 with the toggle 1, the acknowledged ceiling 1000. -/
def reducing : State :=
  { linked with lel :=
    { linked.lel with
      n := some 850, toggle := true, ack := some 1000, drive := 1000, deadline := some 300, sending := none, waiting := [] } }

def report (drive : Nat) (echo : Byte) : Instr := .telemetry { drive := drive, echo := echo, first := none, second := none }

def warm : Thermistors := { th0 := 250, th1 := 300, th2 := 400, th3 := 413, th4 := 400, th5 := 400 }

def order : PeriodOrder := { chainFirst := false, holdFirst := true, wakeFirst := true }

/-- After one sample point of cool readings. -/
def sampled : State := after (.controlPeriodEnd warm order) serving

/-- A stage with one field written. -/
def stagedWith (r : RecordId) (f : StagedField) (s : State) : State :=
  { s with sto := { s.sto with st := .staged { record := r, fields := [f] } } }

def zoomField : StagedField := { code := 0x04#8, index := 0x00#8, value := [0x03#8, 0x80#8] }

/-- The locked installation stage example: warning S5 88.0 and critical S5 103.0 staged. -/
def installStage : State :=
  let stage : Stage := { record := .install, fields := [⟨0x0C#8, 5#8, [0x03#8, 0x70#8]⟩, ⟨0x0D#8, 5#8, [0x04#8, 0x06#8]⟩] }
  { serving with sto := { serving.sto with st := .staged stage } }

def slope : Snapshot :=
  { comp := composeInputs (.slope 100 0) 1024 { h := 0, v := 0 } { h := 128, v := 128 }, keystone := .slope 100 0, zoom := 1024
    residual := { h := 0, v := 0 }, pixelsPerStep := { h := 128, v := 128 }, orientation := .table }

/-- A build of the slope example in flight toward bank B. -/
def building : State :=
  { serving with mse := { build := some { snapshot := slope, target := .b }, counter := 0 }
                 scp := { serving.scp with stateB := .building } }

/-- Bank B READY. -/
def readyB : State := { serving with scp := { serving.scp with stateB := .ready } }

/-- A burst of the live bank A at its data from byte 0. -/
def inBurst (s : State) : State := { s with scp := { s.scp with line := .burst .a (.data 0) 20 } }

/-! ## Well-formedness refuses -/

theorem test_wf_thermistor_beyond_raw_range :
    (Instr.controlPeriodEnd { warm with th0 := -401 } order).wf = false := by decide
theorem test_wf_advert_field_beyond_two_bytes : (Instr.advert { levels with minDrive := 65536 }).wf = false := by decide
theorem test_wf_advert_nine_levels : (Instr.advert { levels with levels := List.replicate 9 500 }).wf = false := by decide
theorem test_wf_advert_thermals_beyond_a_byte : (Instr.advert { levels with thermals := 256 }).wf = false := by decide
theorem test_wf_telemetry_drive_beyond_two_bytes : (report 65536 0#8).wf = false := by decide
theorem test_wf_telemetry_value_that_is_the_marker :
    (Instr.telemetry { drive := 0, echo := 0#8, first := some (-32768), second := none }).wf = false := by decide
theorem test_wf_payload_of_61_bytes : (Instr.fetch (List.replicate 61 0#8)).wf = false := by decide
theorem test_wf_unknown_kind_that_is_known : (Instr.unknownKind 0x32#8 []).wf = false := by decide
theorem test_wf_pure_read_of_two_bytes : (Instr.pureRead [0#8, 0#8]).wf = false := by decide

/-! ## Resets and loading -/

theorem test_power_on_reset_samples_mount : (after (.powerOnReset .ceiling) serving).cfg.orientation = .ceiling := by decide
theorem test_reset_n_deasserts_ready : (after .resetN serving).readyLine = false := by decide
theorem test_reset_n_release_solicits : (after (.resetNRelease .table) (after .resetN serving)).lel.sending = some .solicit := by
  decide
theorem test_loading_end_starts_a_build_on_bank_b :
    (after .loadingEnd State.reset).mse.build.map (fun b => b.target) = some .b := by decide
theorem test_loading_end_homes_h : ((after .loadingEnd State.reset).axis .h).st = .energising := by decide

/-! ## Temperature channels and the control period -/

/-- The loose lead example, point 2. -/
theorem test_sample_enters_window :
    (((Channel.reset true).take 550 (.valid 415)).1.window, windowMean [413, 413, 414, 415]) = ([415], 414) := by decide
/-- The loose lead example, points 3 and 4. -/
theorem test_second_invalid_sample_is_a_fault :
    (({ Channel.reset true with window := [413, 413, 414, 415], filtered := some 414, invalidRun := 1 } : Channel).take 550
      (.invalid .outOfRange)).1.filtered = some 550 := by decide
theorem test_period_end_takes_s3 : ((after (.controlPeriodEnd warm order) serving).channel .s3).filtered = some 413 := by decide
/-- The derate example, end 1 of a part whose link does not report S6 and S7: S2 alone, at 66.0 °C, has E = 80. -/
theorem test_period_end_enters_protect_and_derates :
    (let t := after (.controlPeriodEnd { warm with th2 := 660 } order) serving
     (t.tsv.regime, t.tsv.ceiling)) = (.protect, 980) := by decide
/-- R74: the excess of the last PROTECT period end is reported in PROTECT and not in the EMERGENCY that a report enters. -/
theorem test_excess_is_reported_in_protect_only :
    (let t := after (.controlPeriodEnd { warm with th2 := 660 } order) reducing
     (t.tsv.reportedExcess, (after .reductionDeadlineExpiry t).tsv.regime, (after .reductionDeadlineExpiry t).tsv.reportedExcess)) =
      (some 80, .emergency, none) := by decide +kernel
theorem test_set_light_mode_limits :
    (after (.setLightMode [0x01#8, 0x00#8]) serving).hli.response = ⟨0x01, 0x10#8, [0x01#8, 0x2C#8, 0x01#8, 0x2C#8]⟩ := by decide +kernel
theorem test_clear_emergency_outside_emergency :
    (after (.clearEmergency []) serving).hli.response = ⟨0x15, 0x16#8, [1#8, 0x0A#8]⟩ := by decide
theorem test_clear_emergency_leaves_for_protect :
    (after (.clearEmergency []) (inRegime .emergency { linked with sen := sampled.sen })).tsv.regime = .protect := by decide +kernel
/-- The cool-down example: 600 s after its beginning run-on ends by time. -/
theorem test_run_on_limit :
    (after .runOnLimitExpiry { serving with tsv := { serving.tsv with runOn := some 0 } }).hli.queue =
      [{ count := 1, detail := .cooldownDone .timeLimit 600 }] := by decide

/-! ## Fans -/

/-- The lens move example: the fall of the cap limit lowers F0 from 559 to 500. -/
theorem test_set_acoustic_lowers :
    ((after (.setAcoustic [0#8]) (withFan .f0 (fanIn .running 559) serving)).fanOf .f0).duty = 500 := by decide
theorem test_fan_force_raises_to_minimum :
    (after (.fanForce [1#8, 0#8, 5#8]) serving).hli.response = ⟨0x01, 0x12#8, [0#8, 200#8]⟩ := by decide +kernel
/-- R12: a commit that raises the minimum from 200 to 300 raises an override of 0, and one that keeps it does not. -/
theorem test_new_minimum_raises_an_override_of_0 : (liftOverride 200 300 0, liftOverride 200 200 0) = (300, 0) := by decide
theorem test_fan_release_lowers_to_cap :
    ((after (.fanRelease [4#8]) (withFan .f0 { fanIn .running 900 with override := some 900 } serving)).fanOf .f0).duty = 750 := by
  decide
theorem test_clear_fan_restarts : ((after (.clearFan [3#8]) (withFan .f3 (fanIn .failed 1000) serving)).fanOf .f3).st = .spinup := by
  decide
theorem test_fan_test_begins_with_f0 : ((after (.fanTest []) serving).fanOf .f0).duty = 300 := by decide
/-- The blower example: step 3 of F2 measures 3090 and fails. -/
theorem test_test_step_fails_the_blower :
    ((after .testStepEnd (withFan .f2 (fanIn .test 1000) { serving with fan :=
      { serving.fan with test := { FanTest.empty with run := some ⟨.f2, 2, 24000, 103⟩ } } })).fan.test.rows.get .f2).result =
      .fail := by decide
/-- The stall example at 3.75 s: the second kick. -/
theorem test_spinup_expiry_kicks_again :
    ((after (.spinupExpiry .f3) (withFan .f3 { fanIn .spinup 600 with spinupDue := some 3750, recovering := true, attempts := 1 }
      serving)).fanOf .f3).attempts = 2 := by decide
/-- The stall example at 1.75 s: the duty returns to 600. -/
theorem test_kick_expiry_returns_the_duty :
    ((after (.kickExpiry .f3) (withFan .f3 { fanIn .kick 1000 with kickDue := some 1750, kickPrev := 600, attempts := 1 }
      serving)).fanOf .f3).duty = 600 := by decide
theorem test_allowance_tail_lowers :
    ((after .allowanceTailExpiry (withFan .f0 (fanIn .running 559)
      { serving with fan := { serving.fan with profile := .quiet, allowance := true, tailDue := some 2000 } })).fanOf .f0).duty =
      500 := by decide
theorem test_tach_pulse_counts : ((after (.tachPulse .f1) serving).fanOf .f1).pulses = 1 := by decide

/-! ## The light-engine link -/

theorem test_advert_resolves_n : linked.lel.n = some 1000 := by decide
theorem test_advert_rejected_for_order :
    (after (.advert { levels with levels := [400, 400] }) { serving with lel := { serving.lel with sending := none } }).lel.sending =
      some (.advertReject .levelOrder) := by decide
/-- The reduction example at 60 ms. -/
theorem test_telemetry_acknowledges : (let t := after (report 920 1#8) reducing; (t.lel.ack, t.lel.overCount)) = (some 850, 1) := by
  decide
/-- The second example at 510 ms: the fifth frame above the acknowledged ceiling reports OVERDRIVE. -/
theorem test_fifth_over_drive_is_an_emergency :
    (after (report 1000 1#8) { reducing with lel := { reducing.lel with overCount := 4 } }).tsv.entryCause.map (fun c => c.cause) =
      some .overdrive := by decide
/-- R61, R88: the over-drive is the cause that REGIME_CHANGED names, and nothing is raised where EMERGENCY is in force. -/
theorem test_over_drive_is_named :
    (let queue (s : State) : List Event := (after (report 1000 1#8)
       { s with lel := { s.lel with overCount := 4 }, hli := { s.hli with queue := [] } }).hli.queue.map (fun q => q.detail)
     (queue reducing).contains (.regimeChanged .normal .emergency { cause := .overdrive, index := none }) = true ∧
     ((queue (inRegime .emergency reducing)).any (fun d => d.kind = 0x01)) = false) := by decide +kernel
/-- R76: a framing error within a frame counts and hunts. Hunting, there is nothing to discard. -/
theorem test_frame_error_counts_while_collecting :
    (let t := after .linkFrameError { serving with lel := { serving.lel with rx := .collecting [0x12#8] 2 } }
     (t.lel.frameErrors, t.lel.rx, (after .linkFrameError serving).lel.frameErrors)) = (1, .hunting, 0) := by decide
theorem test_interbyte_timeout_hunts :
    (after .interbyteTimeout { serving with lel := { serving.lel with rx := .collecting [0x12#8] 2 } }).lel.rx = .hunting := by decide
theorem test_byte_hunts_for_the_start :
    ((after (.linkByteReceived 0x11#8) serving).lel.rx, (after (.linkByteReceived 0xA5#8) serving).lel.rx) =
      (.hunting, .collecting [] 2) := by decide
/-- A SOLICIT written out: A5h 01h 00h and the CRC-8 of 01h 00h by the polynomial x⁸ + x² + x + 1, which is 15h. -/
theorem test_solicit_bytes : TxFrame.solicit.bytes = [0xA5#8, 0x01#8, 0x00#8, 0x15#8] := by decide +kernel
theorem test_tx_frame_end_frees_the_line : (after .txFrameEnd serving).lel.sending = none := by decide
theorem test_solicit_timer_restarts : (after .solicitTimerExpiry serving).lel.solicitDue = some 400 := by decide
theorem test_notice_timer_sends :
    (after .noticeTimerExpiry reducing).lel.sending = some (.notice 850 true .normal) := by decide
/-- The example of the engine gone quiet while lit. -/
theorem test_loss_while_lit_is_an_emergency :
    (let t := after .lossTimerExpiry reducing; (t.lel.st, t.tsv.regime, t.lightInhibit)) = (.lost, .emergency, true) := by decide
/-- The example of the engine that does not follow, at 300 ms. -/
theorem test_deadline_is_an_emergency :
    (let t := after .reductionDeadlineExpiry reducing; (t.now, t.lel.n, t.lel.toggle)) = (300, some 0, false) := by decide

/-! ## The lens axes -/

/-- The driver heat example: the first resumed segment ends at 7460 and the second climbs. -/
theorem test_axis_step_ends_first_segment :
    (((after (.axisStep .v false) (withAxis .v (movingAt 7461 7460 7500 false .no) lensReady)).axis .v).dirUp,
     ((after (.axisStep .v false) (withAxis .v (movingAt 7461 7460 7500 false .no) lensReady)).axis .v).pos) =
      (true, some 7460) := by decide
/-- The homing example: the switch closes and the axis is at 0. -/
theorem test_seek_ends_at_the_endstop :
    ((after (.axisStep .h true) (withAxis .h { Axis.reset .full false with
      st := .homing, order := some (.home .start), homing := some (.seek 26 6000) } serving)).axis
      .h).pos = some 0 := by decide
theorem test_energise_starts_the_move :
    ((after (.energiseExpiry .h) (withAxis .h { idleAt 100 with
      st := .energising, energiseDue := some 50, order := some (.move 60) } serving)).axis .h).motion =
      some { goal := 20, run := 0, stopping := .no } := by decide
/-- The homing example: REDUCED, then the release timer of 30 s. -/
theorem test_hold_stage_lowers :
    ((after (.holdStageExpiry .h) (withAxis .h { idleAt 0 with hold := .full, holdDue := some 2200 } serving)).axis .h).holdDue =
      some 32200 := by decide
theorem test_endstop_at_rest_slips :
    ((after (.endstopChange .h true) (withAxis .h (idleAt 17) serving)).axis .h).slipCount = 1 := by decide

/-- R3 under a record that has shrunk the travel: the V base 12090 lies outside it, and the correction toward 0 is ordered to
the limit 12000. -/
theorem test_correction_target_is_clamped :
    ((after (.controlPeriodEnd warm order) (withAxis .v (idleAt 11990)
      { lensReady with lnc := { lensReady.lnc with applied := -100 } })).axis .v).order = some (.move 12000) := by decide +kernel

/-- R107 and R136: V slips while it energises for a correction, and its base is the corrected position with A at 0. -/
theorem test_slip_of_a_correction_moves_its_base :
    (let t := after (.endstopChange .v true) (withAxis .v
       { idleAt 17 with st := .energising, energiseDue := some 50, order := some (.move 49) }
       { serving with lnc := { serving.lnc with applied := 5, correction := some { heldBase := 40, aim := 9 } } })
     (t.base .v, t.lnc.applied, t.lnc.correction.map (fun c => c.heldBase))) = (some 0, 0, some 0) := by decide +kernel

/-! ## Lens requests -/

theorem test_move_to_clamps :
    ((after (.lensMoveTo [1#8, 1#8, 0x1B#8, 0x58#8, 0#8]) lensReady).axis .h).order = some (.move 6000) := by decide
/-- Step 2 of the recall example: ΔH +2000 on the planned 4500 is 6000, clamped, with the remainder 500. -/
theorem test_move_by_queues_the_clamped_target :
    (after (.lensMoveBy [11#8, 1#8, 0x07#8, 0xD0#8, 0#8]) recalling).lnc.queue.map (fun r => r.parts.h) =
      [some (.move 6000 true 500)] := by decide
theorem test_lens_home_energises :
    ((after (.lensHome [2#8, 1#8, 0#8]) (withAxis .h { idleAt 5 with hold := .released } serving)).axis .h).st = .energising := by
  decide
theorem test_lens_stop_with_nothing_in_hand : (after (.lensStop [3#8]) lensReady).hli.response = ⟨0x00, 0x23#8, [0#8]⟩ := by decide
theorem test_lens_recall_of_an_absent_preset :
    (after (.lensRecall [4#8, 9#8]) lensReady).hli.response = ⟨0x14, 0x24#8, []⟩ := by decide
theorem test_lens_back_with_no_history :
    (after (.lensBack [5#8]) lensReady).lnc.outcomes.map (fun o => o.outcome) = [.historyEmpty] := by decide
theorem test_set_overrange_digital : (after (.setOverrange [1#8]) serving).lnc.overrangeMode = .digital := by decide
theorem test_set_drift_mode_refuses : (after (.setDriftMode [3#8]) serving).hli.response = ⟨0x13, 0x27#8, []⟩ := by decide

/-! ## Geometry, mesh, scaler port -/

/-- The composing example: kv = +100, zoom 896, residuals −25 and +600. -/
theorem test_compose_example :
    (let c := composeInputs (.slope 100 0) 896 { h := -25, v := 600 } { h := 128, v := 128 }
     (c.quad.tl.x, c.quad.br.y, c.requested.x, c.applied.y, c.clipped)) =
      (395 * 1024, 1890 * 1024, -13, -135 * 1024, true) := by decide
theorem test_set_keystone_limits : (after (.setKeystone [0#8, 0x01#8, 0x2D#8, 0#8, 0#8]) serving).geo.keystone = .slope 300 0 := by
  decide
theorem test_set_zoom_limits : (after (.setZoom [0x02#8, 0xFF#8]) serving).geo.zoom = 768 := by decide
/-- The slope example: nodes (8, 5) and (4, 5). -/
theorem test_mesh_of_slope_example :
    ((meshNodes slope.comp.quad .table)[17 * 5 + 8]?, (meshNodes slope.comp.quad .table)[17 * 5 + 4]?) =
      (some ⟨15360, 9095, false⟩, some ⟨7276, 9095, false⟩) := by decide
/-- The slope example under CEILING: panel node (15, 10) holds screen node (1, 0). -/
theorem test_mesh_of_slope_example_ceiling :
    (meshNodes slope.comp.quad .ceiling)[17 * 10 + 15]? = some ⟨427, 0, false⟩ := by decide
/-- The slope example: 20 nodes are OUTSIDE. -/
theorem test_build_complete_counts_outside : (after .buildComplete building).scp.meshB.header.outsideCount = 20 := by decide
theorem test_mesh_peek_answers_from_a_node :
    (after (.meshPeek [186#8, 15#8]) serving).hli.response.payload = [0#8, 0#8, 0#8, 0#8, 0#8, 0#8, 186#8, 1#8, 0#8, 0#8, 0#8, 0#8] := by
  decide
/-- The header of the empty mesh of bank A, read from byte 0: its node count 187 and its check 45h. -/
theorem test_burst_reads_the_header :
    (after (.burstStart ([0x6D#8, 0#8, 0#8] ++ List.replicate 8 0#8)) serving).scp.sent =
      [0#8, 0#8, 0#8, 0#8, 0#8, 0#8, 0#8, 0#8, 0#8, 187#8, 0x45#8] := by decide
/-- The deferred swap example: the sync during the burst leaves the swap pending, and the end of the burst takes it. -/
theorem test_burst_end_takes_the_pending_swap :
    (after (.burstEnd []) (after .frameSync (inBurst readyB))).scp.live = .b := by decide
theorem test_burst_limit_spends_the_line : (after (.burstLimitExpiry []) (inBurst serving)).scp.line = .spent := by decide
theorem test_frame_sync_swaps : (after .frameSync readyB).scp.live = .b := by decide
theorem test_sync_absent_swaps : (let t := after .syncAbsentExpiry readyB; (t.scp.live, t.scp.syncAbsent)) = (.b, true) := by decide

/-! ## The settings store -/

theorem test_store_open_install_locked : (after (.storeOpen [0#8] true) serving).hli.response = ⟨0x12, 0x40#8, []⟩ := by decide
/-- The example's zoom of 1100 lies outside its range and is not clamped. -/
theorem test_store_write_refuses_range :
    (after (.storeWrite [0x04#8, 0#8, 0x04#8, 0x4C#8]) (stagedWith .working zoomField serving)).hli.response =
      ⟨0x13, 0x41#8, [1#8, 5#8]⟩ := by decide
/-- The locked stage example. -/
theorem test_store_commit_locked :
    ((after (.storeCommit [] true) installStage).hli.response.status, (after (.storeCommit [] false) installStage).hli.response.status,
     ((after (.storeCommit [] false) installStage).cfg.params.channels.get .s5).warning) = (0x12, 0x02, 880) := by decide
theorem test_store_abandon_names_the_record :
    (after (.storeAbandon []) (stagedWith .working zoomField serving)).hli.response = ⟨0x00, 0x43#8, [1#8]⟩ := by decide
theorem test_store_read_of_the_stage :
    (after (.storeRead [1#8, 0x04#8, 0#8, 1#8]) (stagedWith .working zoomField serving)).hli.response =
      ⟨0x00, 0x44#8, [1#8, 0x03#8, 0x80#8]⟩ := by decide
theorem test_programming_end_keeps_the_record :
    (after (.programmingEnd true) (after (.storeCommit [] false) (stagedWith .working zoomField serving))).sto.images.working.map
      (fun w => w.zoom) = some 896 := by decide

/-! ## The host link -/

theorem test_fetch_after_ready : (after (.fetch []) serving).hli.response = ⟨0x00, 0x00#8, []⟩ := by decide
theorem test_fetch_while_starting : (after (.fetch []) State.reset).hli.response = ⟨0x16, 0x00#8, []⟩ := by decide
theorem test_status_section_0 : (after (.status [0#8] false) serving).hli.response.payload = [0#8, 0#8, 1#8, 0#8, 1#8, 0#8, 1#8] := by
  decide
/-- The folded events example: two LENS_DONE are one entry of count 2 with the later detail. -/
theorem test_events_fold :
    ((after (.lensBack [31#8]) (after (.lensBack [30#8]) serving)).hli.queue.map (fun e => e.count),
     (after (.readEvents []) (after (.lensBack [30#8]) serving)).attn) = ([2], false) := by decide
theorem test_read_counters_clears :
    (after (.readCounters []) { serving with lel := { serving.lel with frameErrors := 255 } }).lel.frameErrors = 0 := by decide
/-- The Rest example: REST taken, the V axis REDUCED. -/
theorem test_rest_taken : (let t := after (.rest []) lensReady; (t.hli.rest, (t.axis .h).hold, (t.axis .v).hold)) =
    (true, .released, .reduced) := by decide
/-- The Rest example at 41.2 s: the accepted frame ends Rest, and F0 starts at its minimum. -/
theorem test_light_on_ends_rest :
    (let t := after (report 300 0xFF#8) { linked with hli := { linked.hli with rest := true } }
     (t.hli.rest, (t.fanOf .f0).duty, (t.fanOf .f0).st)) = (false, 200, .spinup) := by decide
theorem test_restart_keeps_the_position : ((after (.restart []) lensReady).axis .v).pos = some 5000 := by decide
theorem test_unknown_kind : (after (.unknownKind 0x7F#8 []) serving).hli.response = ⟨0x17, 0x7F#8, []⟩ := by decide
theorem test_faulty_frame : (after (.hostFrameInvalid 0x10#8) serving).hli.response = ⟨0x13, 0x10#8, [1#8, 1#8]⟩ := by decide
theorem test_pure_read_sends_the_status : (after (.pureRead [0#8]) State.reset).hli.sent = [0x16#8] := by decide
theorem test_transaction_sends_the_response : (after (.transactionStart [0#8, 0#8, 0#8, 0#8]) State.reset).hli.sent =
    [0x16#8, 0#8, 0#8, 0#8] := by decide
theorem test_step_takes_the_front : step { serving with pending := [.frameSync, .resetN] } =
    exec .frameSync { serving with pending := [.resetN] } := rfl

/-! ## States that meet the statements' hypotheses -/

/-- The example of the engine that does not follow, after 300 ms: EMERGENCY, entered by its own command. -/
def emergency : State := after .reductionDeadlineExpiry reducing

/-- In Rest, with one fan FAILED. -/
def resting : State := withFan .f1 (fanIn .failed 0) (after (.rest []) lensReady)

/-- A lens queue of four waiting requests. -/
def fullQueue : State :=
  let r : Request := { tag := 1#8, origin := .home, parts := { h := some .home, v := none }, preset := none }
  { recalling with lnc := { recalling.lnc with queue := [r, r, r, r] } }

/-- An executing move of AX-H in flight, as LENS_STOP finds it. -/
def moving : State := withAxis .h (movingAt 100 4500 4500 true .no) recalling

/-- Preset 2 of the recall example, stored, with one history entry. -/
def recallable : State :=
  let p : Preset := { name := [], hPos := some 4500, vPos := some 6200, tcal := none, geometry := none }
  { lensReady with sto := { lensReady.sto with images := { Images.absent with presets := Images.absent.presets.set 2 (some p) } }
                   lnc := { lensReady.lnc with history := [{ h := some 2000, v := some 4000 }] } }

/-- A programming of the working-settings record in flight. -/
def programming : State := after (.storeCommit [] false) (stagedWith .working zoomField serving)

def collecting (bytes : List Byte) : State := { serving with lel := { serving.lel with rx := .collecting bytes 2 } }

/-- A TELEMETRY of drive 0 and echo FFh with both values invalid, up to its CRC. -/
def telemetryBytes : List Byte := [0x12#8, 7#8, 0#8, 0#8, 0xFF#8, 0x80#8, 0#8, 0x80#8, 0#8]

theorem witness_serving :
    serving.Serving ∧ lensReady.Serving ∧ linked.Serving ∧ emergency.Serving ∧ resting.Serving ∧ fullQueue.Serving ∧
      moving.Serving ∧ recallable.Serving ∧ programming.Serving ∧ installStage.Serving ∧ building.Serving := by
  unfold State.Serving; decide

theorem witness_RecordsInForceChangeOnlyByTheirCommands :
    exec (.storeCommit [] false) installStage = .next (after (.storeCommit [] false) installStage) ∧
      (after (.storeCommit [] false) installStage).cfg.params ≠ installStage.cfg.params ∧
      (after (.storeCommit [] false) installStage).sto.array ≠ installStage.sto.array := ⟨rfl, by decide +kernel, by decide +kernel⟩

theorem witness_BanksOk : BanksOk building ∧ BanksOk (inBurst readyB) := by
  refine ⟨⟨rfl, by decide, by decide, ?_, ?_⟩, rfl, by decide, by decide, ?_, ?_⟩
  · intro b h; cases h; rfl
  · intro k p d h; cases h
  · intro b h; cases h
  · intro k p d h; cases h; exact ⟨rfl, rfl⟩

theorem witness_LiveBankIsNeverWritten :
    exec .buildComplete building = .next (after .buildComplete building) ∧ (∀ m, Instr.buildComplete ≠ .powerOnReset m) ∧
      Instr.buildComplete ≠ .resetN ∧ ∀ m, Instr.buildComplete ≠ .resetNRelease m :=
  ⟨rfl, (by intro m h; cases h), by decide, (by intro m h; cases h)⟩

theorem witness_EmergencyLeftOnlyByClearing :
    emergency.tsv.regime = .emergency ∧ exec .resetN emergency = .next (after .resetN emergency) ∧
      (after .resetN emergency).tsv.regime ≠ .emergency := ⟨by decide, rfl, by decide⟩

theorem witness_QueueOk : QueueOk [{ count := 255, detail := .cooldownDone .timeLimit 600 }] := by unfold QueueOk; decide

theorem witness_step_of_each_invariant :
    step { building with pending := [.frameSync] } = .next (after .frameSync { building with pending := [] }) := rfl

theorem witness_LensListsOk : LensListsOk fullQueue.lnc := by unfold LensListsOk; decide

theorem witness_CeilingOk : CeilingOk serving.tsv ∧ CeilingOk linked.tsv ∧ CeilingOk emergency.tsv := by unfold CeilingOk; decide

theorem witness_CountersOk : CountersOk { serving with lel := { serving.lel with frameErrors := 255 } } := by
  unfold CountersOk; decide

theorem witness_EmergencyFansOk : EmergencyFansOk emergency := by
  refine ⟨?_, fun _ => ⟨by decide, by decide, ?_⟩⟩
  · intro f; cases f <;> intro h <;> exact absurd h (by decide)
  · intro f; cases f <;> decide

theorem witness_CapOk : CapOk (withFan .f0 (fanIn .running 750) serving) := by
  refine ⟨?_, ?_, ?_, fun _ _ => ?_⟩
  · intro f; cases f <;> decide
  · intro f; cases f <;> decide
  · intro r h; cases h
  · intro f; cases f <;> decide

theorem witness_VHoldOk : VHoldOk serving ∧ (serving.axis .v).st ≠ .energising := by unfold VHoldOk; decide

theorem witness_NoticeOk : NoticeOk linked ∧ linked.lel.n = some 1000 ∧ NoticeOk emergency ∧ emergency.lel.n = some 0 := by
  refine ⟨⟨⟨by decide, by decide⟩, by decide, ?_⟩, by decide, ⟨⟨by decide, by decide⟩, by decide, ?_⟩, by decide⟩
  · intro n h; cases h; decide
  · intro n h; cases h; decide

/-- NoticeCeilingBounds for an engine that takes every level. -/
theorem witness_NoticeCeilingBounds_without_levels :
    (let t := after (.advert { levels with levels := [] }) serving
     (t.lel.n, t.tsv.floor, t.lel.resolved.map (fun a => a.levels))) = (some 1000, 400, some []) := by decide

/-- A move on its last step and one that decelerates, each with the other axis at rest, under a command that is no end of
loading. -/
theorem witness_StepKeepsAxesOk :
    AxesOk (withAxis .h (movingAt 5999 6000 6000 true .no) lensReady) ∧
      AxesOk (withAxis .v (movingAt 100 60 100 false (.halt 40)) lensReady) ∧
      step { withAxis .h (movingAt 5999 6000 6000 true .no) lensReady with pending := [.axisStep .h false] } =
        .next (after (.axisStep .h false) (withAxis .h (movingAt 5999 6000 6000 true .no) lensReady)) := by
  refine ⟨fun a => ?_, fun a => ?_, rfl⟩
  · cases a
    · refine ⟨⟨?_, ?_, ?_, ?_, ?_⟩, by decide⟩
      · intro p h; cases h; decide
      · decide
      · intro p h; cases h; decide
      · intro h; exact absurd h (by decide)
      · intro m _ h; cases h; exact ⟨by decide, fun p h => by cases h; decide, 5999, rfl, by decide, trivial⟩
    · refine ⟨⟨?_, by decide, ?_, ?_, ?_⟩, by decide⟩
      · intro p h; cases h; decide
      · intro p h; cases h
      · intro h; exact absurd h (by decide)
      · intro m h; exact absurd h (by decide)
  · cases a
    · refine ⟨⟨?_, by decide, ?_, ?_, ?_⟩, by decide⟩
      · intro p h; cases h; decide
      · intro p h; cases h
      · intro h; exact absurd h (by decide)
      · intro m h; exact absurd h (by decide)
    · refine ⟨⟨?_, by decide, ?_, ?_, ?_⟩, by decide⟩
      · intro p h; cases h; decide
      · intro p h; cases h; decide
      · intro h; exact absurd h (by decide)
      · intro m _ h; cases h; exact ⟨by decide, fun p h => by cases h; decide, 100, rfl, by decide, by decide⟩

/-- The end of loading, with the one condition that `StepKeepsAxesOk` puts on it. -/
theorem witness_StepKeepsAxesOk_loading :
    State.reset.sto.st = .loading ∧ ∀ a, (State.reset.axis a).st ≠ .moving ∧ (State.reset.axis a).order = none := by
  refine ⟨rfl, fun a => ?_⟩; cases a <;> decide

/-- A residual on each axis, handed over, and a command that changes it. -/
theorem witness_StepKeepsResidualsHandedOver :
    (let s := { lensReady with geo := { lensReady.geo with residual := { h := 30, v := 12 } }
                               lnc := { lensReady.lnc with overrange := { h := 30, v := 5 }, driftResidual := 7 } }
     let r := { recalling with pending := [] }
     (s.geo.residual == { h := s.lnc.overrange.h, v := s.lnc.overrange.v + s.lnc.driftResidual },
      r.geo.residual == { h := r.lnc.overrange.h, v := r.lnc.overrange.v + r.lnc.driftResidual },
      (after (.setDriftMode [2#8]) { serving with lnc := { serving.lnc with desired := 40 } }).geo.residual)) =
      (true, true, { h := 0, v := 40 }) := by decide +kernel

theorem witness_ResetLineHoldsAndReleases :
    (after .resetN serving).inReset = true ∧ serving.inReset = false ∧
      { serving with hli := { serving.hli with line := .active [] } }.hli.line ≠ .idle ∧ (inBurst serving).scp.line ≠ .idle ∧
      ((after (.endstopChange .h true) (after .resetN serving)).axis .h).endstop = true ∧
      (after (.controlPeriodEnd warm order) (after .resetN serving)).sen = (after .resetN serving).sen := by decide +kernel

theorem witness_EmptyMeshAfterReset : building.inReset = false ∧ building.mse.build = some { snapshot := slope, target := .b } :=
  ⟨rfl, rfl⟩

theorem witness_LoadingEndTakesRecords :
    State.reset.inReset = false ∧ State.reset.sto.st = .loading ∧ serving.sto.st ≠ .loading ∧ Install.factory.inRange = true ∧
      Install.factory.check = none ∧ ({ Install.factory with motionAllowance := 1001 } : Install).inRange = false ∧
      ({ Install.factory with motorReduce := 850 } : Install).check ≠ none := by decide +kernel

/-- LoadingEndTakesRecords: an axis beyond its new travel, one within it, an axis under motion hold, and no home-at-start. -/
theorem witness_LoadingEndTakesRecords_axes :
    (let run (held homes : Bool) (x : Axis) : AxisState × Option Nat × Bool :=
       let s := withAxis .h x { State.reset with cfg := { State.reset.cfg with startHoming := homes }
                                                 axc := { State.reset.axc with held := held } }
       let y := (after .loadingEnd s).axis .h
       (y.st, y.pos, y.keptHome)
     [run false true (Axis.reset .released false), run false true (idleAt 6001), run true true (idleAt 6000),
      run false false (idleAt 6001), run false false (idleAt 6000)]) =
      [(.energising, none, false), (.energising, none, false), (.idle, some 6000, true), (.unreferenced, none, false),
       (.idle, some 6000, false)] := by decide +kernel

theorem witness_RestartKeepsLensAndPicture :
    lensReady.taken.restartReasons = [] ∧ programming.taken.restartReasons = [] ∧ fullQueue.taken.restartReasons ≠ [] ∧
      moving.taken.restartReasons = [.axis, .lens] ∧ ∃ p, programming.sto.st = .programming p :=
  ⟨by decide, by decide +kernel, by decide, by decide, _, rfl⟩

theorem witness_RequestsRefusedBeforeTheirBlock :
    (Instr.fetch (List.replicate 60 0#8)).request = some (0x00#8, List.replicate 60 0#8) ∧ State.reset.inReset = false ∧
      State.reset.hli.line ≠ .cut ∧ State.reset.hli.ready = false ∧ (after .resetN serving).inReset = true ∧
      (after .resetN { serving with hli := { serving.hli with line := .active [] } }).hli.line = .cut := by decide

theorem witness_InterfaceRequestsAnswer : (List.replicate 60 0#8).length ≤ 60 ∧ [0#8].length < 2 ∧ ([] : List Byte).length < 2 ∧
    State.reset.inReset = false ∧ State.reset.hli.line ≠ .cut := by decide

theorem witness_RestEntersAndEnds_at_a_request :
    serving.hli.rest = false ∧ resting.hli.rest = true ∧
      ∀ f, (resting.fanOf f).duty = 0 ∧ ((resting.fanOf f).st = .off ∨ (resting.fanOf f).st = .failed) := by
  refine ⟨rfl, by decide, fun f => ?_⟩; cases f <;> decide

theorem witness_StatusReportsSection : (10#8).toNat ≤ 10 ∧ 10 < (11#8).toNat := by decide

theorem witness_RestEntersAndEnds :
    lensReady.taken.restReasons = [] ∧ (inRegime .protect lensReady).taken.restReasons ≠ [] := by decide

/-- Each reason of R197, from the one condition that fails. -/
theorem witness_RestEntersAndEnds_reasons :
    ([inRegime .protect lensReady, { lensReady with tsv := { lensReady.tsv with runOn := some 0 } },
      withAxis .v { idleAt 5000 with keptHome := true } lensReady, withAxis .h (movingAt 10 20 20 true .no) lensReady, recalling,
      { lensReady with lnc := { lensReady.lnc with correction := some { heldBase := 0, aim := 0 } } }, building,
      programming, { lensReady with fan := (after (.fanTest []) lensReady).fan }].map
      (fun s => s.taken.restReasons)) =
      [[.regime], [.runOn], [.axis], [.axis], [.lens], [.drift], [.mesh], [.store], [.fanTest]] := by decide +kernel

theorem witness_RequestsRefusedBeforeTheirBlock_misfit :
    [0#8].length ≠ 0 ∧ [0#8, 0#8].length ≠ 1 ∧ [0#8].length ≠ 2 ∧ [0#8, 0#8].length ≠ 3 ∧ [0#8].length ≠ 4 ∧ [0#8].length < 2 ∧
      [1#8, 1#8, 0#8, 0#8].length ∉ [3, 5, 7] ∧ [1#8, 1#8].length ≠ 2 + ([1#8, 1#8].getD 1 0#8).toNat ∧
      [1#8, 0#8, 0#8, 0#8, 0#8].head? = some 1#8 ∧ [1#8, 0#8, 0#8, 0#8, 0#8].length ≠ 17 := by decide

theorem witness_SetLightModeTakesLevel :
    linked.lel.st = .up ∧ (after (.setLightMode [0x02#8, 0xBC#8]) linked).tsv.handedN ≠ linked.tsv.handedN ∧
      reducing.lel.sending = none ∧ linked.lel.sending ≠ none ∧ serving.lel.st ≠ .up := by decide +kernel

/-- The reduction deadline where SET_LIGHT_MODE lowers N from 850 to 700 at 100 ms (R87): it counts from the NOTICE sent at once or
the one that waits, and is stopped where the acknowledged ceiling is not above N or is none. From a held N of 550, which rises to
700, a deadline that runs is kept. -/
theorem witness_SetLightModeTakesLevel_deadline :
    (let run (ack : Option Nat) (sending : Option TxFrame) : Option Nat × Bool :=
       let t := after (.setLightMode [0x02#8, 0xBC#8])
         { reducing with now := 100, lel := { reducing.lel with ack := ack, sending := sending } }
       (t.lel.deadline, t.lel.deadlineWaits)
     let rises := after (.setLightMode [0x02#8, 0xBC#8])
       { reducing with now := 100, lel := { reducing.lel with n := some 550 }, tsv := { reducing.tsv with handedN := some 550 } }
     [run (some 1000) none, run (some 1000) (some .solicit), run (some 700) none, run none none,
      (rises.lel.deadline, rises.lel.deadlineWaits)]) =
      [(some 400, false), (some 400, true), (none, false), (none, false), (some 300, false)] := by decide +kernel

theorem witness_ClearEmergencyChecksAndClears :
    serving.tsv.regime ≠ .emergency ∧ emergency.tsv.regime = .emergency ∧
      (after (.clearEmergency []) emergency).hli.response.payload = [1#8, 0x0B#8, 0#8] ∧
      (after (.clearEmergency []) { emergency with sen := sampled.sen }).hli.response.status = 0x00 := by decide +kernel

theorem witness_FilteredValueIsMeanOfWindow :
    (Channel.reset true).fault = false ∧ (3 ≤ ({ Channel.reset true with fault := true, validRun := 3 } : Channel).validRun) ∧
      Sample.missing ≠ .valid 0 ∧ ((Channel.reset true).take 550 (.invalid .outOfRange)).1.fault = false := by decide

/-- In Rest 2 s after a sample point another is due, and 1.999 s after it none; fast watch begins 5.0 °C below a warning. -/
theorem witness_ControlPeriodEndSamples :
    (let s := { sampled with hli := { sampled.hli with rest := true } }
     let at_ (n : Nat) : State := { s with tsv := { s.tsv with periodStart := n } }
     ((after (.controlPeriodEnd warm order) (at_ 2000)).sen.lastSample, (after (.controlPeriodEnd warm order) (at_ 1999)).sen.lastSample,
      (after (.controlPeriodEnd { warm with th3 := 500 } order) serving).tsv.periodLen)) = (some 2250, some 250, 125) := by decide +kernel

/-- SENSOR_FAULT at a period end: two channels with their second invalid sample fold into one entry that shows the later one. -/
theorem witness_ControlPeriodEndSamples_fault :
    (let once (c : Chan) (s : State) : State := withChan c { s.channel c with invalidRun := 1 } s
     let s := { once .s3 (once .s2 sampled) with hli := { sampled.hli with queue := [] } }
     let q (th : Thermistors) : List QueueEntry :=
       (after (.controlPeriodEnd th order) s).hli.queue.filter (fun e => e.detail.kind = 0x02)
     [q warm, q { warm with th2 := 1401 }, q { warm with th2 := 1401, th3 := -301 }]) =
      [[], [{ count := 1, detail := .sensorFault .s2 true .outOfRange }],
       [{ count := 2, detail := .sensorFault .s3 true .outOfRange }]] := by decide +kernel

/-- Each clause of ControlPeriodEndSupervises: EMERGENCY kept and entered, NORMAL kept, PROTECT entered, left, kept at the floor
with the 39th and the 40th count, and kept above it. -/
theorem witness_ControlPeriodEndSupervises :
    (let run (r : Regime) (c d : Nat) (th2 : Temp) : Regime × Nat × Nat :=
       let s := inRegime r { serving with tsv := { serving.tsv with ceiling := c, dwell := d } }
       let t := after (.controlPeriodEnd { warm with th2 := th2 } order) s
       (t.tsv.regime, t.tsv.ceiling, t.tsv.dwell)
     [run .emergency 0 0 400, run .normal 700 0 800, run .normal 700 0 400, run .normal 700 0 650, run .protect 700 0 400,
      run .protect 0 39 660, run .protect 0 38 660, run .protect 700 5 600]) =
      [(.emergency, 0, 0), (.emergency, 0, 0), (.normal, 710, 0), (.protect, 680, 0), (.normal, 710, 0), (.emergency, 0, 0),
       (.protect, 0, 39), (.normal, 710, 0)] := by decide +kernel

/-- The causes of R61 at a period end: WARNING before FAN_FAILED for PROTECT, with OVERRIDE_CLEARED; CRITICAL before FAN_FAILED of F2
for EMERGENCY; RECIRCULATION and COOLED for the return; none where the regime stands. -/
theorem witness_ControlPeriodEndSupervises_causes :
    (let run (th2 : Temp) (s : State) : Option CauseAt × List CauseAt × List Event :=
       let t := after (.controlPeriodEnd { warm with th2 := th2 } order) s
       (t.tsv.entryCause, t.tsv.causes,
        (t.hli.queue.map (fun q => q.detail)).filter (fun d => d.kind = 0x01 ∨ d.kind = 0x05))
     let left (recirc : Bool) : State := inRegime .protect { serving with tsv := { serving.tsv with recircLast := recirc } }
     let forced := withFan .f0 { fanIn .running 700 with override := some 700 } serving
     [run 660 (withFan .f1 (fanIn .failed 1000) forced), run 800 (withFan .f2 (fanIn .failed 1000) serving),
      run 400 (left true), run 400 (left false), run 400 serving]) =
      (let cause (k : Cause) (i : Option Nat) : CauseAt := { cause := k, index := i }
       [(some (cause .warning (some 2)), [cause .warning (some 2), cause .fanFailed (some 1)],
         [.overrideCleared [.f0] .protect, .regimeChanged .normal .protect (cause .warning (some 2))]),
        (some (cause .critical (some 2)), [cause .critical (some 2), cause .fanFailed (some 2), cause .warning (some 2)],
         [.regimeChanged .normal .emergency (cause .critical (some 2))]),
        (some (cause .recirculation none), [], [.regimeChanged .protect .normal (cause .recirculation none)]),
        (some (cause .cooled none), [], [.regimeChanged .protect .normal (cause .cooled none)]),
        (none, [], [])]) := by decide +kernel

/-- ControlPeriodEndSupervises: run-on below and at its minimum of 120 s, with S2 cool and warm, and a Rest that a warm S2 ends at
a sample point, that it does not end before one, and that a change of regime ends. -/
theorem witness_ControlPeriodEndSupervises_run_on_and_rest :
    (let runOn (instant : Nat) (th2 : Temp) : Option Nat × RunOnEnd :=
       let s := after (.advert { levels with thermals := 0 }) serving
       let t := after (.controlPeriodEnd { warm with th2 := th2 } order)
         { s with tsv := { s.tsv with runOn := some 0, periodStart := instant } }
       (t.tsv.runOn, t.tsv.lastRunOnEnd)
     let rest (r : Regime) (first : Bool) (instant : Nat) (th2 : Temp) : Bool × List Event :=
       let s := { inRegime r sampled with hli := { sampled.hli with rest := true } }
       let t := after (.controlPeriodEnd { warm with th2 := th2 } { order with wakeFirst := first })
         { s with tsv := { s.tsv with periodStart := instant } }
       (t.hli.rest, (t.hli.queue.map (fun q => q.detail)).filter (fun d => d matches .woke _))
     ([runOn 119749 400, runOn 119750 400, runOn 119750 450],
      [rest .normal true 2000 400, rest .normal true 2000 900, rest .normal false 2000 900, rest .normal true 1999 900,
       rest .protect true 2000 400, rest .protect true 2000 900])) =
      ([(some 0, .none), (none, .temperature), (some 0, .none)],
       [(true, []), (false, [.woke (.temperature .s2)]), (false, [.woke (.regime .protect)]), (true, []),
        (false, [.woke (.regime .normal)]), (false, [.woke (.temperature .s2)])]) := by decide +kernel

/-- ControlPeriodEndDrivesFans: the governing temperature at the first breakpoint's side, between two, beyond the last, and of
an empty set. -/
theorem witness_ControlPeriodEndDrivesFans_curve :
    (let gov (th : Thermistors) (s : State) : Temp × Nat :=
       let t := after (.controlPeriodEnd th order) s
       (t.governing (s.fanParams .f0) (s.fanParams .f0).curveT, t.curveDuty (s.fanParams .f0))
     [gov warm serving, gov { warm with th0 := 350 } serving, gov { warm with th0 := 650 } serving,
      gov warm (withChan .s0 (Channel.reset false) serving)]) = [(250, 250), (350, 325), (650, 1000), (600, 1000)] ∧
    ∀ f, (serving.fanParams f).curveT.Pairwise (fun b c => b.temp < c.temp) := by
  refine ⟨by decide +kernel, fun f => ?_⟩; cases f <;> decide

/-- ControlPeriodEndDrivesFans on F0 at 40 %: chained, in KICK, in TEST, under an override, at its third and second stall period,
RUNNING for a part of the period, recovered, slow in a recovering SPINUP and in a first SPINUP; and a change of regime, and
PROTECT kept. -/
theorem witness_ControlPeriodEndDrivesFans :
    (let run (r : Regime) (th0 th2 : Temp) (x : Fan) : FanState × Nat × Nat × Nat :=
       let s := inRegime r { serving with tsv := { serving.tsv with periodStart := 1000 } }
       let y := (after (.controlPeriodEnd { warm with th0 := th0, th2 := th2 } order) (withFan .f0 x s)).fanOf .f0
       (y.st, y.duty, y.stallRun, y.attempts)
     let cool := run .normal 250 400
     let running := fanIn .running 400
     let spinup : Fan := { fanIn .spinup 400 with spinupDue := some 2000 }
     ([cool running, cool { fanIn .kick 1000 with kickPrev := 300 }, cool (fanIn .test 300), cool { running with override := some 400 },
       cool { running with low := 400, stallRun := 2 }, cool { running with low := 400, stallRun := 1 },
       cool { running with since := 1100, stallRun := 1 }, cool { spinup with recovering := true, attempts := 1 },
       cool { spinup with low := 400, recovering := true, attempts := 1 }, cool spinup],
      run .normal 450 400 { running with override := some 400 }, run .protect 250 660 (fanIn .running 700))) =
      ([(.running, 350, 0, 0), (.kick, 1000, 0, 0), (.test, 300, 0, 0), (.running, 400, 0, 0), (.kick, 1000, 0, 1),
        (.running, 350, 2, 0), (.running, 350, 1, 0), (.running, 350, 0, 0), (.spinup, 350, 0, 1), (.spinup, 350, 0, 0)],
       (.running, 550, 0, 0), (.running, 600, 0, 0)) := by decide +kernel

theorem witness_ProfileReleaseAndClearActOnFans_profile :
    2 < (3#8).toNat ∧ (2#8).toNat ≤ 2 ∧ serving.tsv.regime = .normal ∧
      500 < ((withFan .f0 (fanIn .running 501) serving).taken.fanOf .f0).duty := by decide

theorem witness_FanForceCommandsItsFan :
    3 < (4#8).toNat ∧ FanId.ofIndex (3#8).toNat = some .f3 ∧ (after (.fanTest []) serving).fan.test.run ≠ none ∧
      serving.fan.test.run = none ∧ (inRegime .protect serving).tsv.regime ≠ .normal ∧
      ((withFan .f3 (fanIn .failed 0) serving).fanOf .f3).st = .failed ∧
      ((withFan .f3 (fanIn .kick 1000) serving).taken.fanOf .f3).st = .kick := by decide

theorem witness_ProfileReleaseAndClearActOnFans :
    4 < (5#8).toNat ∧ (4#8).toNat ≤ 4 ∧
      ((withFan .f0 { fanIn .running 900 with override := some 900 } serving).taken.fanOf .f0).override ≠ none ∧
      serving.capLimit .f0 < 900 ∧ ((withFan .f3 (fanIn .failed 0) serving).taken.fanOf .f3).st = .failed := by decide

theorem witness_FanTestRuns :
    (after (.fanTest []) serving).fan.test.run ≠ none ∧ emergency.tsv.regime = .emergency ∧ emergency.fan.test.run = none ∧
      reducing.lel.st = .up ∧ 0 < reducing.lel.drive ∧ linked.lel.drive = 0 ∧
      ((withFan .f0 (fanIn .failed 0) serving).fanOf .f0).st = .failed := by decide

/-- FanTestRuns at a step's end: no test, a first step, and a last step with a next fan and without one. -/
theorem witness_FanTestRuns_step_end :
    (let begun := after (.fanTest []) serving
     let atStep (f : FanId) (k : Nat) : State :=
       { begun with fan := { begun.fan with test := { begun.fan.test with run := some ⟨f, k, 0, 0⟩ } } }
     ((after .testStepEnd serving).fan.test.run, (after .testStepEnd begun).fan.test.run.map (fun r => r.step),
      (after .testStepEnd (atStep .f0 2)).fan.test.run.map (fun r => r.fan), (after .testStepEnd (atStep .f3 2)).fan.test.outcome)) =
      (none, some 1, some .f1, some .complete) := by decide +kernel

/-- FanTestRuns: a test of the first fan aborted by light, by the deadline, by the loss of a lit link and by a critical reading. -/
theorem witness_FanTestRuns_aborted :
    (let begun (s : State) : State :=
       { s with fan := { s.fan with fans := s.fan.fans.set .f0 { s.fan.fans.get .f0 with st := .test, duty := 300 }
                                    test := { s.fan.test with run := some ⟨.f0, 0, 0, 0⟩ } } }
     let seen (t : State) : Option TestOutcome × Option TestCause × FanState × Nat :=
       (t.fan.test.outcome, t.fan.test.cause, (t.fanOf .f0).st, (t.fanOf .f0).duty)
     [seen (after (report 100 0xFF#8) (begun linked)), seen (after .reductionDeadlineExpiry (begun reducing)),
      seen (after .lossTimerExpiry (begun reducing)),
      seen (after (.controlPeriodEnd { warm with th5 := 1200 } order) (begun reducing))]) =
      [(some .aborted, some .lightOn, .running, 300), (some .aborted, some .emergency, .running, 1000),
       (some .aborted, some .emergency, .running, 1000), (some .aborted, some .emergency, .running, 1000)] := by decide +kernel

theorem witness_FanAndRunOnTimers_stall_episode :
    (serving.fanOf .f0).spinupDue = none ∧ (serving.fanOf .f0).kickDue = none ∧
      ((after (.spinupExpiry .f0) (withFan .f0 { fanIn .spinup 600 with spinupDue := some 2000 } serving)).fanOf .f0).st = .running ∧
      ((after (.spinupExpiry .f0) (withFan .f0 { fanIn .spinup 600 with spinupDue := some 2000, recovering := true, attempts := 3 }
        serving)).fanOf .f0).st = .failed := by decide

theorem witness_FanAndRunOnTimers :
    serving.fan.tailDue = none ∧ serving.tsv.runOn = none ∧ serving.fan.test.run = none ∧
      ((after (.tachPulse .f0) { after (.fanTest []) serving with now := 2000 }).fan.test.run.map (fun r => r.pulses),
       (after (.tachPulse .f0) { after (.fanTest []) serving with now := 1999 }).fan.test.run.map (fun r => r.pulses)) =
        (some 1, some 0) := by decide

/-- AdvertIsAnswered: nine levels, each failed check at the edge of its range, and an accepted one that is not the first. -/
theorem witness_AdvertIsAnswered :
    (let free := { serving with lel := { serving.lel with sending := none } }
     let answer (a : AdvertFrame) : Option TxFrame := (after (.advert a) free).lel.sending
     ((after (.advert { levels with levels := List.replicate 9 500 }) free).lel.frameErrors,
      [answer { levels with minDrive := 901 }, answer { levels with levels := [399] }, answer { levels with levels := [500, 500] },
       answer { levels with minRunOn := 301 }, answer { levels with thermals := 3 }, answer levels],
      (after (.advert { levels with thermals := 1 }) linked).sen.channels.s7.present)) =
      (1, [some (.advertReject .minDrive), some (.advertReject .levelRange), some (.advertReject .levelOrder),
           some (.advertReject .runOn), some (.advertReject .thermalCount), some .advertReply], false) := by decide +kernel

/-- AdvertIsAnswered: S6 and S7 in FAULT, both made absent, in a queue that is sound. -/
theorem witness_AdvertIsAnswered_absent :
    (let faulty : Channel := { Channel.reset true with fault := true }
     let s := withChan .s6 faulty (withChan .s7 faulty { linked with hli := { linked.hli with queue := [] } })
     (s.hli.queue, ((after (.advert { levels with thermals := 0 }) s).hli.queue.filter (fun e => e.detail.kind = 0x02)))) =
      ([], [{ count := 2, detail := .sensorFault .s7 false .absent }]) := by decide +kernel

theorem witness_TelemetryIsTaken :
    ((after (report 1001 0#8) reducing).lel.frameErrors, (after (report 1000 2#8) reducing).lel.frameErrors,
     (after (report 1000 0#8) serving).lel.drive, (after (report 860 1#8) reducing).lel.overCount,
     (after (report 861 1#8) reducing).lel.overCount) = (1, 1, 0, 0, 1) ∧
    ((after (report 860 1#8) reducing).lel.deadline, (after (report 860 0#8) reducing).lel.deadline) = (none, some 300) := by
  decide +kernel

theorem witness_ReceiverCollectsFrames :
    serving.lel.rx = .hunting ∧ (collecting []).lel.rx = .collecting [] 2 ∧
      ((after (.linkByteReceived 0x12#8) (collecting [])).lel.rx, (after (.linkByteReceived 0x13#8) (collecting [])).lel.frameErrors,
       (after (.linkByteReceived 7#8) (collecting [0x12#8])).lel.rx, (after (.linkByteReceived 8#8) (collecting [0x12#8])).lel.frameErrors,
       (after (.linkByteReceived 22#8) (collecting [0x11#8])).lel.rx, (after (.linkByteReceived 24#8) (collecting [0x11#8])).lel.frameErrors) =
        (.collecting [0x12#8] 2, 1, .collecting [0x12#8, 7#8] 2, 1, .collecting [0x11#8, 22#8] 2, 1) ∧
      ((after (.linkByteReceived (crc8 telemetryBytes + 1#8)) (collecting telemetryBytes)).lel.frameErrors,
       (after (.linkByteReceived (crc8 telemetryBytes)) (collecting telemetryBytes)).lel.rx) = (1, .hunting) := by decide +kernel

theorem witness_TransmitterSendsInOrder :
    (let idle := { serving with lel := { serving.lel with sending := none, solicitDue := none } }
     let waits := { reducing with lel := { reducing.lel with sending := some .advertReply, waiting := [.notice], deadlineWaits := true } }
     (idle.lel.sending, idle.lel.solicitDue, idle.lel.noticeDue, (after .txFrameEnd waits).lel.deadline,
      (after .noticeTimerExpiry waits).lel.waiting)) = (none, none, none, some 300, [.notice]) := by decide +kernel

theorem witness_LossAndDeadlineReport :
    serving.lel.lossDue = none ∧ serving.lel.deadline = none ∧ reducing.lel.lossDue = some 200 ∧ reducing.lel.deadline = some 300 ∧
      linked.lel.drive = 0 ∧ 0 < reducing.lel.drive ∧ emergency.tsv.regime = .emergency ∧
      ({ emergency with lel := { emergency.lel with deadline := some 600 } }).lel.deadline = some 600 := by decide

/-- LossAndDeadlineReport: the fan in TEST has the turn, and no fan in TEST. -/
theorem witness_LossAndDeadlineReport_turns :
    (∀ f ∈ FanId.list, (reducing.fanOf f).st ≠ .test) ∧
      ((after (.fanTest []) serving).fanOf .f0).st = .test ∧
      (after (.fanTest []) serving).fan.test.run.map (fun r => r.fan) = some .f0 ∧
      (∀ f ∈ FanId.list, f ≠ .f0 → ((after (.fanTest []) serving).fanOf f).st ≠ .test) := by decide +kernel

theorem witness_EngineFramesDecode :
    (Instr.advert { levels with levels := List.replicate 8 65535 }).wf = true ∧ (report 1000 0xFF#8).wf = true ∧
      ({ drive := 1000, echo := 0xFF#8, first := some 32767, second := none } : TelemetryFrame).sound = true := by decide

/-- AxisStepMovesAxis: a step that goes on, that slips above 16, that does not slip at 16, that ends on target, halts and holds;
a homing that leaves the switch, backs off the 199th and the 200th step, seeks, finds, and does not find. -/
theorem witness_AxisStepMovesAxis :
    (let run (e : Bool) (x : Axis) : AxisState × Option Nat × Nat :=
       let y := (after (.axisStep .h e) (withAxis .h x { serving with axc := { serving.axc with held := true } })).axis .h
       (y.st, y.pos, y.slipCount)
     let homing (p : HomePhase) : Axis :=
       { Axis.reset .full true with st := .homing, order := some (.home .request), homing := some p }
     [run false (movingAt 100 200 200 true .no), run true (movingAt 16 200 200 true .no), run true (movingAt 15 200 200 true .no),
      run false (movingAt 199 200 200 true .no), run false (movingAt 100 200 200 true (.halt 2)),
      run false (movingAt 100 200 200 true (.halt 1)), run false (movingAt 100 200 200 true (.hold 1)),
      run false (homing (.backOff 5)), run true (homing (.backOff 198)), run true (homing (.backOff 199)),
      run false (homing (.seek 6498 6000)), run true (homing (.seek 5 6000)), run false (homing (.seek 6499 6000)),
      run false (idleAt 5)]) =
      [(.moving, some 101, 0), (.idle, some 0, 1), (.moving, some 16, 0), (.idle, some 200, 0), (.moving, some 101, 0),
       (.idle, some 101, 0), (.suspended, some 101, 0), (.homing, none, 0), (.homing, none, 0), (.fault, none, 0),
       (.homing, none, 0), (.idle, some 0, 0), (.fault, none, 0), (.idle, some 5, 0)] := by decide +kernel

/-- AxisStepMovesAxis: a deceleration for a motion hold that has ended, short of its target and on it, and a move that ends
with an entry waiting that homes the same axis. -/
theorem witness_AxisStepMovesAxis_after_the_hold :
    (let run (x : Axis) : AxisState × Option Nat :=
       let y := (after (.axisStep .h false) (withAxis .h x serving)).axis .h
       (y.st, y.pos)
     let home : Request := { tag := 1#8, origin := .home, parts := { h := some .home, v := none }, preset := none }
     let s := withAxis .h (movingAt 4499 4500 4500 true .no) { recalling with lnc := { recalling.lnc with queue := [home] } }
     ([run (movingAt 100 200 200 true (.hold 1)), run (movingAt 199 200 200 true (.hold 1))],
      ((after (.axisStep .h false) s).axis .h).st)) = ([(.moving, some 101), (.idle, some 200)], .homing) := by decide +kernel

theorem witness_AxisTimersAndEndstop :
    (idleAt 5).energiseDue = none ∧ (idleAt 5).holdDue = none ∧
      ((after (.energiseExpiry .h) (withAxis .h { Axis.reset .full true with
          st := .energising, energiseDue := some 50, order := some (.home .request) } serving)).axis .h).homing = some (.backOff 0) ∧
      ((after (.holdStageExpiry .v) (withAxis .v { idleAt 5 with hold := .full, holdDue := some 9 } serving)).axis .v).holdDue = none ∧
      ((after (.holdStageExpiry .h) (withAxis .h { idleAt 5 with holdDue := some 9 } serving)).axis .h).hold = .released ∧
      ((after (.endstopChange .h true) (withAxis .h (idleAt 16) serving)).axis .h).slipCount = 0 ∧
      ((after (.endstopChange .v true) (withAxis .v { idleAt 17 with st := .suspended } serving)).axis .v).pos = some 0 ∧
      ((after (.energiseExpiry .h) (withAxis .h { idleAt 60 with
          st := .energising, energiseDue := some 50, order := some (.move 60) } serving)).axis .h).st = .idle ∧
      ((after (.endstopChange .h true) (withAxis .h (idleAt 17)
          { serving with axc := { serving.axc with forced := true } })).axis .h).holdDue = some 30000 := by decide +kernel

/-- LinesAndPositionsFollowState: the newest of two queue entries that name H, one that names V only behind it, the executing
request, and the base with a correction in flight and without. -/
theorem witness_LinesAndPositionsFollowState :
    (let entry (h v : Option Part) : Request := { tag := 1#8, origin := .moveTo, parts := { h := h, v := v }, preset := none }
     let queued (q : List Request) : State := { recalling with lnc := { recalling.lnc with queue := q } }
     let corrected : State :=
       { lensReady with lnc := { lensReady.lnc with applied := 5, correction := some { heldBase := 40, aim := 9 } } }
     ((queued [entry (some (.move 100 false 0)) none, entry (some .home) none, entry none (some (.move 7 false 0))]).planned .h,
      recalling.planned .h, recalling.planned .v, corrected.base .v, { corrected with lnc :=
        { corrected.lnc with correction := none } }.base .v, lensReady.vAvailable false, reducing.lightInhibit)) =
      (some 0, some 4500, some 5000, some 40, some 4995, true, false) := by decide +kernel

/-- ControlPeriodEndGuardsMotorDriver, for the S5 handed on: the thresholds 75.0 and 85.0 °C, and each state an entry, an end
and forced reduced hold alone find an axis in. -/
theorem witness_ControlPeriodEndGuardsMotorDriver :
    (let run (held forced : Bool) (th5 : Temp) (x : Axis) : Bool × Bool × AxisState × HoldLevel :=
       let s := withAxis .h x { lensReady with axc := { lensReady.axc with held := held, forced := forced } }
       let t := after (.controlPeriodEnd { warm with th5 := th5 } order) s
       (t.axc.held, t.axc.forced, (t.axis .h).st, (t.axis .h).hold)
     let move := movingAt 100 4500 4500 true .no
     let stand : Axis := { move with motion := some { goal := 4500, run := 0, stopping := .no } }
     let homing : Axis := { Axis.reset .full true with st := .homing, order := some (.home .request), homing := some (.seek 5 6000) }
     let energised (o : AxisOrder) : Axis := { idleAt 100 with st := .energising, energiseDue := some 999, hold := .full, order := some o }
     let waits (pos target : Nat) : Axis := { idleAt pos with st := .suspended, order := some (.move target) }
     let kept (hold : HoldLevel) : Axis := { Axis.reset hold false with order := some (.home .request), keptHome := true }
     [run false false 749 move, run false false 750 move, run false false 750 { idleAt 5 with hold := .full },
      run false true 720 move, run false true 719 move, run false false 850 move, run false false 850 stand,
      run false false 850 homing, run false false 850 (energised (.home .request)), run false false 850 (energised (.move 60)),
      run true true 820 (waits 100 60), run true true 819 (waits 100 60), run true true 819 (waits 60 60),
      run true true 819 (kept .released), run true true 819 (kept .reduced)]) =
      [(false, false, .moving, .full), (false, true, .moving, .reduced), (false, true, .idle, .reduced),
       (false, true, .moving, .full), (false, false, .moving, .full), (true, true, .moving, .reduced),
       (true, true, .suspended, .reduced), (true, true, .unreferenced, .released), (true, true, .unreferenced, .released),
       (true, true, .suspended, .reduced), (true, true, .suspended, .reduced), (false, true, .moving, .reduced),
       (false, true, .idle, .reduced), (false, true, .energising, .reduced), (false, true, .homing, .reduced)] ∧
    (lensReady.lnc.driftMode, lensReady.lnc.applied, lensReady.lnc.queue.length, lensReady.lnc.correction.isNone) =
      (.off, 0, 0, true) := by decide +kernel

/-- ControlPeriodEndGuardsMotorDriver: a correction in flight is halted, or ends where it has no way to decelerate. -/
theorem witness_ControlPeriodEndGuardsMotorDriver_correction :
    (let run (steps : Nat) : AxisState × Option Stopping × Bool :=
       let x := { movingAt 100 4500 4500 true .no with motion := some { goal := 4500, run := steps, stopping := .no } }
       let s : State := withAxis .v x
         { lensReady with lnc := { lensReady.lnc with driftMode := .motor, correction := some { heldBase := 100, aim := 50 } } }
       let t := after (.controlPeriodEnd { warm with th5 := 850 } order) s
       ((t.axis .v).st, (t.axis .v).motion.map (fun m => m.stopping), t.lnc.correction.isSome)
     [run 1, run 0]) = [(.moving, some (.halt 1), true), (.idle, none, false)] := by decide +kernel

theorem axesOk_of_idle (s : State) (h : ∀ a, ∃ pos, (s.axis a).pos = some pos ∧ pos ≤ (s.axisParams a).travelLimit ∧
    (s.axis a).st = .idle ∧ (s.axis a).order = none) : AxesOk s := fun a => by
  obtain ⟨pos, hp, hl, hs, ho⟩ := h a
  simp [AxisOk, AxisState.inMotion, hp, hs, ho, hl]

theorem witness_LensMovesAndHomesAreQueued :
    4 ≤ fullQueue.lnc.queue.length ∧ ¬ 4 ≤ lensReady.lnc.queue.length ∧ serving.planned .h = none ∧ lensReady.planned .h = some 3000 ∧
      (after (.lensHome [1#8, 2#8, 0#8, 1#8]) lensReady).hli.response.status = 0x02 := by decide

theorem witness_LensMovesAndHomesAreQueued_axes : AxesOk lensReady ∧ ¬ 4 ≤ lensReady.lnc.queue.length := by
  refine ⟨?_, by decide⟩
  exact axesOk_of_idle _ fun a => by cases a <;> exact ⟨_, rfl, by decide, rfl, rfl⟩

/-- LensMovesAndHomesAreQueued: LENS_HOME with no axis, with an index that is no axis's, with one axis and a full queue, with both in
either order, and with one named twice. -/
theorem witness_LensMovesAndHomesAreQueued_homes :
    (let home (axes : List Byte) (s : State) : State := after (.lensHome (7#8 :: BitVec.ofNat 8 axes.length :: axes)) s
     let named (axes : List Byte) : List AxisState := [(home axes lensReady).axis .h, (home axes lensReady).axis .v].map (fun x => x.st)
     ([(home [] lensReady).hli.response, (home [0#8, 2#8] lensReady).hli.response].map (fun r => (r.status, r.payload)),
      (home [1#8] fullQueue).hli.response.status, [named [1#8, 0#8], named [0#8, 0#8], named [1#8]])) =
      ([(0x13, []), (0x13, [1#8, 2#8])], 0x10, [[.homing, .homing], [.homing, .idle], [.idle, .homing]]) := by decide +kernel

theorem witness_LensRecallBackStop :
    9 < (10#8).toNat ∧ programming.sto.st.programming? = true ∧ (recallable.sto.images.presets[2]?).join ≠ none ∧
      (lensReady.sto.images.presets[9]?).join = none ∧ 4 ≤ fullQueue.lnc.queue.length ∧ lensReady.lnc.history = [] ∧
      recallable.lnc.history ≠ [] ∧ moving.lnc.executing ≠ none ∧
      ((after (.lensStop [1#8]) moving).axis .h).motion.map (fun m => m.stopping) ≠ some .no ∧
      (after (.lensRecall [10#8, 2#8]) recallable).lnc.history.length = 2 ∧
      (after (.lensBack [12#8]) recallable).lnc.history = [] := by decide +kernel

/-- The start of a request: DIGITAL overrange takes the remainder, a drift of 13 steps reaches V as A, a move to where V stands
completes at once, and a start with V energised leaves the request executing. -/
theorem witness_LensMovesAndHomesAreQueued_started :
    (let s := { lensReady with
                  cfg := { lensReady.cfg with params := { lensReady.cfg.params with kd := 160 } }
                  sen := (after (.controlPeriodEnd warm order) lensReady).sen
                  lnc := { lensReady.lnc with overrangeMode := .digital, driftMode := .motor } }
     let start (preset : Option PresetCopy) (origin : Origin) (v : Part) : State :=
       let r : Request := { tag := 9#8, origin := origin, parts := { h := none, v := some v }, preset := preset }
       State.serve 1 (s.putLens { s.lnc with queue := [r] })
     let t := start (some { tcal := some 400, geometry := none }) .recall (.move 5000 false 0)
     let u := start none .moveTo (.move 6000 true 40)
     let w := start none .moveTo (.move 5000 true 40)
     [(t.lnc.executing.isSome, t.lnc.applied, t.geo.residual.v), (u.lnc.executing.isSome, u.lnc.applied, u.geo.residual.v),
      (w.lnc.executing.isSome, w.lnc.applied, w.geo.residual.v)]) =
      [(true, 13, 0), (true, 0, 40), (false, 0, 40)] := by decide +kernel

theorem witness_LensRecallBackStop_axes :
    AxesOk recallable ∧ ¬ 4 ≤ recallable.lnc.queue.length ∧ recallable.sto.st.programming? = false := by
  refine ⟨?_, by decide, by decide⟩
  exact axesOk_of_idle _ fun a => by cases a <;> exact ⟨_, rfl, by decide, rfl, rfl⟩

theorem witness_LensModesReformResiduals :
    1 < (2#8).toNat ∧ 2 < (3#8).toNat ∧ serving.lnc.overrangeMode = .clamp ∧
      (after (.setOverrange [1#8]) serving).lnc.overrangeMode = .digital ∧ serving.lnc.correction = none ∧
      serving.vAvailable false = false ∧ lensReady.vAvailable false = true ∧
      (after (.setDriftMode [2#8]) { serving with lnc := { serving.lnc with desired := 401 } }).lnc.driftResidual = 400 := by
  decide +kernel

/-- ControlPeriodEndTracksDrift, with S3 at 41.3 °C and kd 160: Tcal captured, a correction from REDUCED and from RELEASED, a
drift within 3 steps, another axis executing, V executing, V in motion, DIGITAL and OFF with A and without. -/
theorem witness_ControlPeriodEndTracksDrift :
    (let run (mode : DriftMode) (applied : Int) (tcal : Option Temp) (v : Axis) (e : Option Executing) :
         Int × Int × Option Int × AxisState :=
       let s : State := withAxis .v v
         { lensReady with cfg := { lensReady.cfg with params := { lensReady.cfg.params with kd := 160 } }
                          lnc := { lensReady.lnc with driftMode := mode, applied := applied, tcal := tcal, executing := e } }
       let t := after (.controlPeriodEnd warm order) s
       (t.lnc.desired, t.lnc.driftResidual, t.lnc.correction.map (fun c => c.aim), (t.axis .v).st)
     let at_ := idleAt 5000
     let homesV : Option Executing :=
       some { request := ⟨1#8, .home, { h := none, v := some .home }, none⟩, answers := { h := none, v := none } }
     [run .off 0 none at_ none, run .motor 0 (some 400) at_ none, run .motor 0 (some 400) { at_ with hold := .released } none,
      run .motor 12 (some 400) at_ none, run .motor 0 (some 400) at_ recalling.lnc.executing, run .motor 0 (some 400) at_ homesV,
      run .motor 0 (some 400) (movingAt 100 4500 4500 true .no) none, run .digital 5 (some 400) at_ none,
      run .digital 0 (some 400) at_ none, run .off 5 (some 400) at_ none]) =
      [(0, 0, none, .idle), (13, 0, some 13, .moving), (13, 0, some 13, .energising), (13, 0, none, .idle), (13, 0, none, .idle),
       (13, 0, none, .idle), (13, 13, none, .moving), (13, 8, some 0, .moving), (13, 13, none, .idle), (13, 0, some 0, .moving)] := by
  decide +kernel

/-- ControlPeriodEndTracksDrift: residuals handed over as the geometry unit holds them. -/
theorem witness_ControlPeriodEndTracksDrift_residuals :
    lensReady.geo.residual = { h := lensReady.lnc.overrange.h, v := lensReady.lnc.overrange.v + lensReady.lnc.driftResidual } := by
  decide

theorem witness_KeystoneAndZoomCompose :
    1 < (2#8).toNat ∧ (List.replicate 59 0#8).length < 60 ∧ serving.mse.build = none ∧ building.mse.build ≠ none ∧
      ((after (.setZoom [0x04#8, 0#8]) serving).mse.build.isSome, (after (.setZoom [0x03#8, 0xFF#8]) serving).mse.build.isSome) =
        (false, true) := by decide +kernel

theorem witness_ComposedQuadIsConvexOnPanel :
    (Keystone.slope 300 (-300)).inRange = true ∧ (Keystone.corners ⟨960, 540⟩ ⟨960, 540⟩ ⟨960, 540⟩ ⟨960, 540⟩).inRange = true ∧
      (let c := composeInputs (.slope 0 0) 896 { h := -25, v := 600 } { h := 128, v := 128 }
       (c.requested, c.applied)) = (⟨-13, -300⟩, ⟨-13 * 1024, -135 * 1024⟩) := by decide

/-- The slope example's denominator, in pixels: −8 294 400. -/
theorem witness_MeshNodesFollowProjectiveMap :
    (let q := slope.comp.quad
     ((q.tr.x - q.br.x) * (q.bl.y - q.br.y) - (q.bl.x - q.br.x) * (q.tr.y - q.br.y)) / (1024 * 1024)) = -8294400 := by decide

theorem witness_ScalerReadsLiveBank :
    (inBurst serving).scp.line = .burst (inBurst serving).scp.live (.data 0) 20 ∧
      (after (.burstLimitExpiry []) (inBurst serving)).scp.line = .spent ∧ serving.scp.line = .idle ∧ (0x6C#8 : Byte) ≠ 0x6D#8 ∧
      (after (.meshPeek [187#8, 1#8]) serving).hli.response.status ≠ 0x00 ∧
      (after (.burstStart ([0x6D#8, 0x02#8, 0xFB#8] ++ [0#8, 0#8])) serving).scp.sent = [0#8, 0#8, 0#8, 0x45#8, 0#8] := by
  decide +kernel

/-- ScalerReadsLiveBank: a command told in pieces, its last piece reading from the address told before, and a burst under reset. -/
theorem witness_ScalerReadsLiveBank_in_pieces :
    (let line (data : List Byte) : ScalerLine := (after (.burstStart data) serving).scp.line
     [line [], line [0x6D#8], line [0x6C#8], line [0x6D#8, 2#8], line [0x6D#8, 2#8, 0xFB#8, 0#8]]) =
      [.burst .a .command 20, .burst .a .addressHigh 20, .burst .a .ignored 20, .burst .a (.addressLow 2) 20,
       .burst .a (.data 764) 20] ∧
    ((after (.burstEnd [0xFB#8, 0#8, 0#8]) (after (.burstStart [0x6D#8, 2#8]) serving)).scp.sent =
      [0#8, 0#8, 0#8, 0x45#8, 0#8]) ∧
    (after .resetN serving).inReset = true ∧
    (after (.burstStart [0x6D#8, 0#8, 0#8, 0#8]) (after .resetN serving)).scp.sent = [0#8, 0#8, 0#8, 0#8] := by decide +kernel

/-- SwapsFollowSync: a swap that waits for a burst is taken where the burst is cut short. -/
theorem witness_SwapsFollowSync_burst_limit :
    (let s := after .frameSync (inBurst readyB)
     (s.scp.swapPending, s.scp.live, (after (.burstLimitExpiry []) s).scp.live, (after (.burstLimitExpiry []) s).scp.line)) =
      (true, .a, .b, .spent) := by decide +kernel

theorem witness_SwapsFollowSync :
    (inBurst readyB).scp.burst? = true ∧ ¬ readyB.scp.burst? = true ∧ readyB.scp.stateOf readyB.scp.live.other = .ready ∧
      ¬ serving.scp.stateOf serving.scp.live.other = .ready ∧ (after .syncAbsentExpiry serving).scp.syncDue = none ∧
      serving.scp.syncDue = some 100 ∧ serving.mse.build = none ∧ building.mse.build ≠ none ∧
      (after .frameSync (inBurst readyB)).scp.swapPending = true := by decide +kernel

theorem witness_StoreStagesAndReadsFields :
    11 < (12#8).toNat ∧ RecordId.ofNumber (11#8).toNat ≠ none ∧ serving.sto.st = .idle ∧ programming.sto.st.programming? = true ∧
      (∃ g, installStage.sto.st = .staged g) ∧ (RecordId.defaults .working).read 0x04 0 ≠ none ∧
      (RecordId.defaults .working).read 0x07 0 = none ∧
      (after (.storeWrite [0x04#8, 0#8, 0x03#8, 0#8]) (stagedWith .working zoomField serving)).hli.response.status = 0x00 ∧
      (after (.storeRead [1#8, 0x04#8, 0#8, 0#8]) serving).hli.response.status = 0x14 :=
  ⟨by decide, by decide, rfl, by decide +kernel, ⟨_, rfl⟩, by decide, by decide, by decide +kernel, by decide +kernel⟩

/-- Fields of the three records written and read back, from the worked examples of the store: S5's warning at 88.0 °C, its index 8
that no channel has, the zoom of 1024 and one of 1100; SLOPE kv 40, kh 0 with the zoom 1024 and with 1100; a name. -/
theorem witness_StoreStagesAndReadsFields_fields :
    (let back (r : RecordFields) (code index : Nat) (v : List Byte) : Option (List Byte) := match r.write code index v with
       | .taken q => q.read code index
       | .noField => none
       | .range => some []
     let install := RecordFields.install .factory
     let preset := RecordFields.preset 3 .default
     let geometry (zoom : Nat) : List Byte := 0#8 :: (signedBytes 40 ++ signedBytes 0 ++ wordBytes zoom)
     [back install 0x0C 5 [0x03#8, 0x70#8], back install 0x0C 8 [0x03#8, 0x70#8], back (.working .default) 0x04 0 [0x04#8, 0x00#8],
      back (.working .default) 0x04 0 [0x04#8, 0x4C#8], back preset 0x05 0 (geometry 1024), back preset 0x05 0 (geometry 1100),
      back preset 0x01 0 [2#8, 0x41#8, 0x7F#8], back preset 0x01 0 [1#8, 0x41#8]]) =
      [some [0x03#8, 0x70#8], none, some [0x04#8, 0x00#8], some [], some [0#8, 0#8, 40#8, 0#8, 0#8, 4#8, 0#8], some [], some [],
       some [1#8, 0x41#8]] := by decide +kernel

theorem witness_StoreStagesAndReadsFields_abandon :
    (∃ g, installStage.sto.st = .staged g) ∧ ∀ g, serving.sto.st ≠ .staged g := ⟨⟨_, rfl⟩, fun _ h => by cases h⟩

/-- InstallCommitIsCheckedWhole: a record that passes, each failed check, the part idle and not, and a field set with one staged
field. -/
theorem witness_InstallCommitIsCheckedWhole :
    (let p := Install.factory
     let curve : List Breakpoint := [⟨300, 250⟩, ⟨300, 400⟩]
     [p.check, { p with fans := p.fans.set .f1 { p.fans.get .f1 with curveT := curve } : Install }.check,
      { p with channels := p.channels.set .s3 { p.channels.get .s3 with warning := 700 } : Install }.check,
      { p with motorReduce := 850 : Install }.check].map (fun c => c.map (fun r => r == .motorThresholdOrder))) =
      [none, some false, some false, some true] ∧
    lensReady.idleForInstall = true ∧ moving.idleForInstall = false ∧
    (let g : Stage := { record := .working, fields := [zoomField] }
     (g.value 0x04#8 0#8, g.value 0x05#8 0#8, ((fullFieldSet Images.absent g).read 0x04 0))) =
      (some [0x03#8, 0x80#8], none, some [0x03#8, 0x80#8]) := by decide +kernel

/-- StoreCommitProgramsRecord: no stage, nothing staged, a locked stage, a failed check, and each kind of record taken. -/
theorem witness_StoreCommitProgramsRecord :
    (let status (s : State) : Nat := (after (.storeCommit [] false) s).hli.response.status
     let staged (r : RecordId) (fs : List StagedField) : State :=
       { serving with sto := { serving.sto with st := .staged { record := r, fields := fs } } }
     [status serving, status (staged .working []), (after (.storeCommit [] true) installStage).hli.response.status,
      status (staged .install [⟨0x0C#8, 5#8, [0x04#8, 0x1A#8]⟩]), status (staged .working [zoomField]),
      status (staged (.preset 3) [⟨0x02#8, 0#8, [0x0C#8, 0x30#8]⟩]), status installStage,
      (after (.programmingEnd false) programming).hli.queue.length]) = [0x15, 0x00, 0x12, 0x13, 0x02, 0x02, 0x02, 1] := by decide +kernel

/-- StoreCommitProgramsRecord: the part turned from CEILING to TABLE with recirculation watched, a fan below its new minimum and an
axis beyond its new travel. -/
theorem witness_StoreCommitProgramsRecord_installation :
    (let commit (fs : List StagedField) (s : State) : State :=
       after (.storeCommit [] false) { s with sto := { s.sto with st := .staged { record := .install, fields := fs } } }
     let ceiling := { lensReady with cfg := { lensReady.cfg with orientation := .ceiling }
                                     tsv := { lensReady.tsv with recirc := true, entryCount := 3 } }
     let turned := commit [⟨0x01#8, 0#8, [1#8]⟩] ceiling
     let slow := commit [⟨0x13#8, 0#8, [0x01#8, 0x90#8]⟩] (withFan .f0 (fanIn .running 300) lensReady)
     let short := commit [⟨0x02#8, 1#8, [0x07#8, 0xD0#8]⟩] lensReady
     (turned.cfg.orientation, turned.tsv.recirc, turned.tsv.entryCount, (slow.fanOf .f0).duty, (short.axis .v).st, (short.axis .v).pos)) =
      (.table, false, 0, 400, .unreferenced, none) := by decide +kernel

end Sys2Proof.Tests
end

section
/-! SUPPORT. The temperature channels: what a sample makes of one channel, the filtered value (O30), a sample point and the
SENSOR_FAULTs it raises, and what the rest of a period end leaves as it is (O31); the state after reset (O18). -/

namespace Sys2Proof.TemperatureChannels

open Machine

/-! ## The mean of a window -/

/-- The rounding of R20: the result lies within half of the quotient, a half above being taken. -/
theorem roundHalfUp_bounds (n : Int) {d : Nat} (hd : 0 < d) :
    2 * n - d < 2 * d * roundHalfUp n d ∧ 2 * d * roundHalfUp n d ≤ 2 * n + d := by
  have hpos : (0 : Int) < 2 * d := by omega
  have low := Int.mul_ediv_self_le (x := 2 * n + d) (k := 2 * d) (by omega)
  have high := Int.lt_mul_ediv_self_add (x := 2 * n + d) hpos
  unfold roundHalfUp
  omega

theorem pushWindow_length_pos (w : List Temp) (t : Temp) : 0 < (pushWindow w t).length := by
  simp [pushWindow]

/-! ## One sample of a channel (R19, R22 to R24) -/

/-- R19, R20, R24: a valid sample enters the window of a channel in NORMAL, or of one in FAULT with three valid samples behind
it, and the channel is in NORMAL with the window's mean. -/
theorem take_valid_normal (warning v : Temp) {c : Channel} (h : c.fault = false ∨ 3 ≤ c.validRun) :
    (c.take warning (.valid v)).1 =
      { c with window := pushWindow c.window v, filtered := some (windowMean (pushWindow c.window v)), fault := false,
               invalidRun := 0, validRun := if c.fault then 0 else c.validRun } := by
  obtain ⟨present, window, filtered, fault, invalidRun, validRun, held, handed⟩ := c
  cases fault with
  | false => rfl
  | true =>
    have h4 : 4 ≤ validRun + 1 := by simpa using h
    simp [Channel.take, Channel.takeFault, h4]

/-- R24: an earlier valid sample of a channel in FAULT is counted, and the channel stays in FAULT. -/
theorem take_valid_fault (warning v : Temp) {c : Channel} (hf : c.fault = true) (h : c.validRun < 3) :
    (c.take warning (.valid v)).1 =
      { c with window := pushWindow c.window v, validRun := c.validRun + 1, filtered := some warning } := by
  have h4 : ¬ 4 ≤ c.validRun + 1 := by omega
  simp [Channel.take, Channel.takeFault, hf, h4]

/-- R22: the first invalid sample of a channel in NORMAL is counted and changes nothing else. -/
theorem take_invalid_first (warning : Temp) (k : SensorCause) {c : Channel} (hf : c.fault = false) (h : c.invalidRun = 0) :
    (c.take warning (.invalid k)).1 = { c with invalidRun := 1 } := by
  simp [Channel.take, Channel.takeNormal, hf, h]

/-- R23: the second invalid sample on end, or one in FAULT, leaves the channel in FAULT with its window empty. -/
theorem take_invalid_fault (warning : Temp) (k : SensorCause) {c : Channel} (h : c.fault = true ∨ 1 ≤ c.invalidRun) :
    (c.take warning (.invalid k)).1 =
      { c with window := [], validRun := 0, filtered := some warning, fault := true
               invalidRun := if c.fault then c.invalidRun else 0 } := by
  obtain ⟨present, window, filtered, fault, invalidRun, validRun, held, handed⟩ := c
  cases fault with
  | false =>
    have h2 : 1 ≤ invalidRun := by simpa using h
    simp [Channel.take, Channel.takeNormal, h2]
  | true => rfl

/-- R18: with no sample a channel in NORMAL is as it was, and one in FAULT takes the threshold in force. -/
theorem take_missing (warning : Temp) (c : Channel) :
    (c.take warning .missing).1 = { c with filtered := if c.fault then some warning else c.filtered } := by
  obtain ⟨present, window, filtered, fault, invalidRun, validRun, held, handed⟩ := c
  cases fault <;> rfl

/-- A sample leaves a channel's presence, its held value and the value last handed on. -/
theorem take_frame (warning : Temp) (x : Sample) (c : Channel) :
    (c.take warning x).1.present = c.present ∧ (c.take warning x).1.held = c.held ∧
      (c.take warning x).1.handed = c.handed := by
  unfold Channel.take Channel.takeFault Channel.takeNormal
  repeat' split
  all_goals exact ⟨rfl, rfl, rfl⟩

/-- R22, R23: a sample that is not valid and leaves the channel in NORMAL leaves its window and filtered value. -/
theorem take_held (warning : Temp) {x : Sample} {c : Channel} (hf : c.fault = false) (hx : ∀ v, x ≠ .valid v)
    (hn : (c.take warning x).1.fault = false) :
    (c.take warning x).1.window = c.window ∧ (c.take warning x).1.filtered = c.filtered := by
  cases x with
  | valid v => exact absurd rfl (hx v)
  | invalid k =>
    by_cases h : c.invalidRun = 0
    · rw [take_invalid_first warning k hf h]; exact ⟨rfl, rfl⟩
    · rw [take_invalid_fault warning k (.inr (by omega))] at hn
      cases hn
  | missing => simp [take_missing, hf]

/-- Settles O30: the mean is formed by `roundHalfUp`, whose bounds put it within half a tenth of the quotient. -/
theorem filteredValueIsMeanOfWindow : Obligations.FilteredValueIsMeanOfWindow := by
  refine ⟨fun warning v c h => ?_, fun warning x c => take_held warning, by decide, by decide,
    by decide, by decide, by decide⟩
  rw [take_valid_normal warning v h]
  exact ⟨rfl, rfl, _, rfl, roundHalfUp_bounds _ (pushWindow_length_pos c.window v)⟩

/-! ## A sample point, channel by channel (R16 to R26) -/

/-- The cause of a change of condition that a sample brings (R25). -/
def changeCause (c : Channel) (x : Sample) : SensorCause :=
  match c.fault, x with
  | false, .invalid k => k
  | _, _ => .recovered

/-- R25: a change is reported exactly where the condition changes, with the new condition. -/
theorem take_change (warning : Temp) (x : Sample) (c : Channel) :
    (c.take warning x).2 =
      if (c.take warning x).1.fault = c.fault then none
      else some ((c.take warning x).1.fault, changeCause c x) := by
  obtain ⟨present, window, filtered, fault, invalidRun, validRun, held, handed⟩ := c
  cases fault with
  | false =>
    cases x with
    | invalid k => by_cases h : 1 ≤ invalidRun <;> simp [Channel.take, Channel.takeNormal, changeCause, h]
    | _ => simp [Channel.take, Channel.takeNormal]
  | true =>
    cases x with
    | valid v => by_cases h : 3 ≤ validRun <;> simp [Channel.take, Channel.takeFault, changeCause, h]
    | _ => simp [Channel.take, Channel.takeFault]

/-- A channel as its sample leaves it, before it is handed on. -/
def afterSample (th : Thermistors) (s : State) (c : Chan) : Channel :=
  ((s.channel c).take (s.chanParams c).warning (s.sampleFor th c)).1

/-- What a sample point makes of one channel. -/
def sampled (th : Thermistors) (s : State) (c : Chan) : Channel :=
  if (s.channel c).present then { (afterSample th s c).handOn (s.chanParams c).warning with held := none } else s.channel c

/-- Whether a sample point changes the condition of a channel. -/
def changes (th : Thermistors) (s : State) (c : Chan) : Bool := (sampled th s c).fault != (s.channel c).fault

/-- The SENSOR_FAULT of a channel whose condition changes. -/
def faultEvent (th : Thermistors) (s : State) (c : Chan) : Event :=
  .sensorFault c (sampled th s c).fault (changeCause (s.channel c) (s.sampleFor th c))

theorem sampled_absent {th : Thermistors} {s : State} {c : Chan} (h : (s.channel c).present = false) :
    sampled th s c = s.channel c := by simp [sampled, h]

theorem sampled_present {th : Thermistors} {s : State} {c : Chan} (h : (s.channel c).present = true) :
    sampled th s c = { (afterSample th s c).handOn (s.chanParams c).warning with held := none } := by simp [sampled, h]

theorem perChan_get_set {α : Type} (p : PerChan α) (c d : Chan) (x : α) :
    (p.set c x).get d = if d = c then x else p.get d := by
  cases c <;> cases d <;> rfl

theorem perChan_set_get {α : Type} (p : PerChan α) (c : Chan) : p.set c (p.get c) = p := by
  cases c <;> rfl

theorem putChannel_channel (s : State) (c d : Chan) (x : Channel) :
    (s.putChannel c x).channel d = if d = c then x else s.channel d :=
  perChan_get_set _ _ _ _

theorem putChannel_self (s : State) (c : Chan) : s.putChannel c (s.channel c) = s := by
  simp [State.putChannel, State.channel, perChan_set_get]

/-- One channel at a sample point: it becomes what its sample makes of it, and SENSOR_FAULT is raised where its condition
changes. -/
theorem sampleChannel_eq (th : Thermistors) (s : State) (c : Chan) :
    s.sampleChannel th c =
      if changes th s c then (s.putChannel c (sampled th s c)).raise (faultEvent th s c)
      else s.putChannel c (sampled th s c) := by
  by_cases hp : (s.channel c).present = true
  · have hfault : (sampled th s c).fault = (afterSample th s c).fault := by rw [sampled_present hp]; rfl
    have hchange := take_change (s.chanParams c).warning (s.sampleFor th c) (s.channel c)
    unfold State.sampleChannel
    by_cases h : (afterSample th s c).fault = (s.channel c).fault
    · have hstands : changes th s c = false := by simp [changes, hfault, h]
      simp [hp, hstands, hchange.trans (if_pos h), sampled_present hp, afterSample]
    · have hchanges : changes th s c = true := by simp [changes, hfault, h]
      simp [hp, hchanges, hchange.trans (if_neg h), sampled_present hp, afterSample, faultEvent, Channel.handOn]
  · have hp : (s.channel c).present = false := by simpa using hp
    simp [State.sampleChannel, changes, sampled_absent hp, hp, putChannel_self]

theorem sampleChannel_channel (th : Thermistors) (s : State) (c d : Chan) :
    (s.sampleChannel th c).channel d = if d = c then sampled th s c else s.channel d := by
  rw [sampleChannel_eq, ← putChannel_channel]
  split <;> rfl

theorem sampleChannel_queue (th : Thermistors) (s : State) (c : Chan) :
    (s.sampleChannel th c).hli.queue =
      if changes th s c then insertEvent (faultEvent th s c) s.hli.queue else s.hli.queue := by
  rw [sampleChannel_eq]
  split <;> rfl

/-- The sample of a channel is read from its thermistor, from the link and from the channel's own held value. -/
theorem sampleFor_congr {th : Thermistors} {s t : State} {c : Chan} (hl : t.lel = s.lel) (hc : t.channel c = s.channel c) :
    t.sampleFor th c = s.sampleFor th c := by
  have light : lightSample t.lel.st (t.channel c).held = lightSample s.lel.st (s.channel c).held := by rw [hl, hc]
  cases c with
  | s6 | s7 => exact light
  | _ => rfl

theorem sampled_congr {th : Thermistors} {s t : State} {c : Chan} (hl : t.lel = s.lel) (hp : t.cfg = s.cfg)
    (hc : t.channel c = s.channel c) : sampled th t c = sampled th s c := by
  simp [sampled, afterSample, hc, sampleFor_congr hl hc, State.chanParams, hp]

theorem sampled_sampleChannel_other {th : Thermistors} {s : State} {c d : Chan} (h : d ≠ c) :
    (s.sampleChannel th c).channel d = s.channel d ∧ sampled th (s.sampleChannel th c) d = sampled th s d ∧
      changes th (s.sampleChannel th c) d = changes th s d ∧ faultEvent th (s.sampleChannel th c) d = faultEvent th s d := by
  have hc : (s.sampleChannel th c).channel d = s.channel d := by rw [sampleChannel_channel, if_neg h]
  have hs : sampled th (s.sampleChannel th c) d = sampled th s d := sampled_congr (by simp) (by simp) hc
  have hx : (s.sampleChannel th c).sampleFor th d = s.sampleFor th d := sampleFor_congr (by simp) hc
  exact ⟨hc, hs, by simp only [changes, hs, hc], by simp only [faultEvent, hs, hc, hx]⟩

/-- Channels sampled in turn, each of them once, become what the sample point makes of them; the others stand. -/
theorem foldl_sampleChannel_channel (th : Thermistors) {cs : List Chan} (hn : cs.Nodup) (s : State) (d : Chan) :
    (cs.foldl (fun s c => s.sampleChannel th c) s).channel d = if d ∈ cs then sampled th s d else s.channel d := by
  induction cs generalizing s with
  | nil => simp
  | cons c cs ih =>
    obtain ⟨hc, hcs⟩ := List.nodup_cons.mp hn
    rw [List.foldl_cons, ih hcs]
    by_cases h : d = c
    · subst h; simp [hc, sampleChannel_channel]
    · obtain ⟨hd, hs, -, -⟩ := sampled_sampleChannel_other (th := th) (s := s) h
      simp [h, hd, hs]

/-- Their SENSOR_FAULTs are raised in the same turn. -/
theorem foldl_sampleChannel_queue (th : Thermistors) {cs : List Chan} (hn : cs.Nodup) (s : State) :
    (cs.foldl (fun s c => s.sampleChannel th c) s).hli.queue =
      ((cs.filter (changes th s)).map (faultEvent th s)).foldl (fun q e => insertEvent e q) s.hli.queue := by
  induction cs generalizing s with
  | nil => rfl
  | cons c cs ih =>
    obtain ⟨hc, hcs⟩ := List.nodup_cons.mp hn
    have other (d : Chan) (hd : d ∈ cs) := sampled_sampleChannel_other (th := th) (s := s) (ne_of_mem_of_not_mem hd hc)
    have hfilter : cs.filter (changes th (s.sampleChannel th c)) = cs.filter (changes th s) :=
      List.filter_congr fun d hd => (other d hd).2.2.1
    have hmap : (cs.filter (changes th s)).map (faultEvent th (s.sampleChannel th c)) =
        (cs.filter (changes th s)).map (faultEvent th s) :=
      List.map_congr_left fun d hd => (other d (List.mem_filter.mp hd).1).2.2.2
    rw [List.foldl_cons, ih hcs, hfilter, hmap, sampleChannel_queue, List.filter_cons]
    split <;> rfl

theorem chanList_nodup : Chan.list.Nodup := by decide

theorem mem_chanList (c : Chan) : c ∈ Chan.list := by cases c <;> decide

/-- R16: a sample point makes of every channel what its sample makes of it. -/
theorem samplePoint_channel (th : Thermistors) (s : State) (c : Chan) : (s.samplePoint th).channel c = sampled th s c := by
  have h := foldl_sampleChannel_channel th chanList_nodup s c
  rwa [if_pos (mem_chanList c)] at h

/-- R16, R25: a sample point raises the SENSOR_FAULTs of the channels whose condition changes, in ascending order. -/
theorem samplePoint_queue (th : Thermistors) (s : State) :
    (s.samplePoint th).hli.queue =
      ((Chan.list.filter (changes th s)).map (faultEvent th s)).foldl (fun q e => insertEvent e q) s.hli.queue :=
  foldl_sampleChannel_queue th chanList_nodup s

theorem samplePoint_lastSample (th : Thermistors) (s : State) : (s.samplePoint th).sen.lastSample = some s.now := by
  have h : ∀ (cs : List Chan) (u : State), (cs.foldl (fun s c => s.sampleChannel th c) u).now = u.now := fun cs => by
    induction cs with
    | nil => exact fun u => rfl
    | cons c cs ih => exact fun u => (ih _).trans (by simp)
  exact congrArg some (h Chan.list s)

/-! ## The SENSOR_FAULT entries of the event queue (R193, R195) -/

/-- The entries of kind SENSOR_FAULT. -/
def sensorFaults (q : List QueueEntry) : List QueueEntry := q.filter (fun e => e.detail.kind = 0x02)

/-- An event of another kind leaves them. -/
theorem sensorFaults_insert_other {e : Event} (h : e.kind ≠ 0x02) (q : List QueueEntry) :
    sensorFaults (insertEvent e q) = sensorFaults q := by
  unfold sensorFaults
  induction q with
  | nil => simp [insertEvent, h]
  | cons x q ih =>
    by_cases hx : x.detail.kind = e.kind
    · simp [insertEvent, hx, h]
    · simp [insertEvent, hx, List.filter_cons, ih]

/-- A SENSOR_FAULT is counted among them as it is in the whole queue. -/
theorem sensorFaults_insert {e : Event} (h : e.kind = 0x02) (q : List QueueEntry) :
    sensorFaults (insertEvent e q) = insertEvent e (sensorFaults q) := by
  unfold sensorFaults
  induction q with
  | nil => simp [insertEvent, h]
  | cons x q ih =>
    by_cases hx : x.detail.kind = 0x02
    · simp [insertEvent, hx, h]
    · simp [insertEvent, hx, h, ih]

theorem sensorFaults_insertAll {es : List Event} (h : ∀ e ∈ es, e.kind = 0x02) (q : List QueueEntry) :
    sensorFaults (es.foldl (fun q e => insertEvent e q) q) = es.foldl (fun q e => insertEvent e q) (sensorFaults q) := by
  induction es generalizing q with
  | nil => rfl
  | cons e es ih =>
    rw [List.foldl_cons, ih (fun x hx => h x (List.mem_cons_of_mem _ hx)), sensorFaults_insert (h e List.mem_cons_self)]
    rfl

/-- R193: with at most one entry of a kind in the queue, there is at most one SENSOR_FAULT. -/
theorem sensorFaults_length_le_one {q : List QueueEntry} (h : QueueOk q) : (sensorFaults q).length ≤ 1 := by
  have distinct : ((sensorFaults q).map (fun e => e.detail.kind)).Nodup :=
    List.Pairwise.sublist (List.filter_sublist.map _) h.1
  have kind (e : QueueEntry) (he : e ∈ sensorFaults q) : e.detail.kind = 0x02 := of_decide_eq_true (List.mem_filter.mp he).2
  generalize sensorFaults q = l at distinct kind
  cases l with
  | nil => exact Nat.zero_le 1
  | cons x l =>
    cases l with
    | nil => exact Nat.le_refl 1
    | cons y l =>
      have same : x.detail.kind = y.detail.kind :=
        (kind x List.mem_cons_self).trans (kind y (List.mem_cons_of_mem _ List.mem_cons_self)).symm
      exact absurd (List.mem_map.mpr ⟨y, List.mem_cons_self, same.symm⟩) (List.nodup_cons.mp distinct).1

/-- R193, R195: one more SENSOR_FAULT makes one entry, with the count one more. -/
theorem insertEvent_single {e : Event} {l : List QueueEntry} (hl : l.length ≤ 1) (hk : ∀ x ∈ l, x.detail.kind = e.kind) :
    insertEvent e l = [{ count := min 255 ((l.map (fun x => x.count)).sum + 1), detail := e }] := by
  cases l with
  | nil => simp [insertEvent]
  | cons x l =>
    obtain rfl : l = [] := by simpa using hl
    simp [insertEvent, hk x List.mem_cons_self, satSucc]

/-- R193, R195: several SENSOR_FAULTs make one entry, which counts them all and shows the last. -/
theorem insertAll_single {es : List Event} {e : Event} {l : List QueueEntry} (hl : l.length ≤ 1)
    (hk : ∀ x ∈ l, x.detail.kind = 0x02) (hes : ∀ x ∈ es, x.kind = 0x02) (hlast : es.getLast? = some e) :
    es.foldl (fun q e => insertEvent e q) l =
      [{ count := min 255 ((l.map (fun x => x.count)).sum + es.length), detail := e }] := by
  induction es generalizing l with
  | nil => cases hlast
  | cons x es ih =>
    have hx : x.kind = 0x02 := hes x List.mem_cons_self
    have hone := insertEvent_single hl (fun y hy => (hk y hy).trans hx.symm)
    rw [List.foldl_cons, hone]
    cases es with
    | nil => cases hlast; rfl
    | cons y es =>
      rw [ih (by simp) (by simp [hx]) (fun z hz => hes z (List.mem_cons_of_mem _ hz)) (by simpa using hlast)]
      simp
      omega

/-! ## What the rest of a period end leaves as it is -/

/-- The measured speed and the pulse count of each fan. -/
def tachometers (s : State) : PerFan (Nat × Nat) := s.fan.fans.mapWith (fun _ x => (x.speed, x.pulses))

/-- What nothing after the fan checks of a period end changes: the fans' measured speeds and pulse counts, the mesh engine but
for the build, the scaler port but for the states of its banks, and the SENSOR_FAULT entries. -/
def steady (s : State) : PerFan (Nat × Nat) × MseBlock × ScpBlock × List QueueEntry :=
  (tachometers s, { s.mse with build := none }, { s.scp with stateA := .spare, stateB := .spare }, sensorFaults s.hli.queue)

/-- An operation that touches none of the four blocks leaves it. -/
theorem steady_congr {s t : State} (hf : t.fan.fans = s.fan.fans) (hm : t.mse = s.mse) (hs : t.scp = s.scp)
    (hq : t.hli.queue = s.hli.queue) : steady t = steady s := by
  simp only [steady, tachometers, hf, hm, hs, hq]

theorem steady_raise {e : Event} (h : e.kind ≠ 0x02) (s : State) : steady (s.raise e) = steady s := by
  simp [steady, tachometers, sensorFaults_insert_other h]

/-! ### Fans -/

theorem steady_putFan {f : FanId} {x : Fan} {s : State} (hs : x.speed = (s.fanOf f).speed)
    (hp : x.pulses = (s.fanOf f).pulses) : steady (s.putFan f x) = steady s := by
  have h : tachometers (s.putFan f x) = tachometers s := by
    cases f <;> simp_all [tachometers, PerFan.set, PerFan.mapWith, State.fanOf, PerFan.get]
  simp [steady, h]

theorem noteDuty_tachometer (now d : Nat) (x : Fan) :
    (x.noteDuty now d).speed = x.speed ∧ (x.noteDuty now d).pulses = x.pulses := by
  unfold Fan.noteDuty
  split <;> exact ⟨rfl, rfl⟩

theorem command_tachometer (now d : Nat) (x : Fan) :
    (x.command now d).speed = x.speed ∧ (x.command now d).pulses = x.pulses := by
  simp only [Fan.command]
  repeat' split
  all_goals simp [noteDuty_tachometer]

@[simp] theorem steady_commandFan (f : FanId) (d : Nat) (s : State) : steady (s.commandFan f d) = steady s :=
  have h := command_tachometer s.now d (s.fanOf f)
  steady_putFan h.1 h.2

theorem steady_eachFan {act : FanId → State → State} (h : ∀ f u, steady (act f u) = steady u) (s : State) :
    steady (s.eachFan act) = steady s := by
  simp only [State.eachFan, FanId.list, List.foldl, h]

@[simp] theorem steady_lowerToCaps (s : State) : steady s.lowerToCaps = steady s :=
  steady_eachFan (fun f u => by unfold State.lowerFan; split <;> simp) s

@[simp] theorem steady_dutyChain (rest : Bool) (s : State) : steady (s.dutyChain rest) = steady s := by
  refine steady_eachFan (fun f u => ?_) s
  simp only [State.chainFan]
  split
  · exact steady_putFan rfl rfl
  · split <;> simp

@[simp] theorem steady_fansWake (s : State) : steady s.fansWake = steady s :=
  steady_eachFan (fun f u => by simp) s

@[simp] theorem steady_leaveTest (f : FanId) (s : State) : steady (s.leaveTest f) = steady s :=
  (steady_commandFan f _ _).trans (steady_putFan rfl rfl)

@[simp] theorem steady_abortTest (c : TestCause) (s : State) : steady (s.abortTest c) = steady s := by
  unfold State.abortTest
  split
  · rfl
  · exact (steady_raise (by simp [Event.kind]) _).trans ((steady_leaveTest _ _).trans (steady_congr rfl rfl rfl rfl))

@[simp] theorem steady_clearOverrides (r : Regime) (s : State) : steady (s.clearOverrides r) = steady s := by
  have cleared : steady { s with fan := { s.fan with fans := s.fan.fans.mapWith (fun _ x => { x with override := none }) } } =
    steady s := rfl
  simp only [State.clearOverrides]
  split
  · exact cleared
  · rw [steady_raise (by simp [Event.kind]), cleared]

@[simp] theorem steady_fansOnRegime (r : Regime) (s : State) : steady (s.fansOnRegime r) = steady s := by
  cases r with
  | normal => exact steady_lowerToCaps s
  | protect => exact (steady_eachFan (fun f u => by split <;> simp) _).trans (steady_clearOverrides _ s)
  | emergency => exact (steady_eachFan (fun f u => by split <;> simp) _).trans (by simp)

/-! ### The thermal supervisor -/

@[simp] theorem steady_putTsv (t : TsvBlock) (s : State) : steady (s.putTsv t) = steady s := steady_congr rfl rfl rfl rfl

@[simp] theorem steady_resolveNotice (s : State) : steady s.resolveNotice = steady s :=
  steady_congr (by simp) (by simp) (by simp) (by simp)

@[simp] theorem steady_deadlineOnClearing (s : State) : steady s.deadlineOnClearing = steady s :=
  steady_congr (by simp) (by simp) (by simp) (by simp)

@[simp] theorem steady_wake (c : WakeCause) (s : State) : steady (s.wake c) = steady s := by
  unfold State.wake State.endRest
  split
  · exact (steady_raise (by simp [Event.kind]) _).trans ((steady_fansWake _).trans (steady_congr rfl rfl rfl rfl))
  · rfl

@[simp] theorem steady_wakeByTemperature (s : State) : steady s.wakeByTemperature = steady s := by
  unfold State.wakeByTemperature
  split <;> simp

@[simp] theorem steady_changeRegime (r : Regime) (c : CauseAt) (adjust : TsvBlock → TsvBlock) (s : State) :
    steady (s.changeRegime r c adjust) = steady s := by
  refine (steady_raise (by simp [Event.kind]) _).trans ?_
  split <;> simp

@[simp] theorem steady_evaluateRegime (s : State) : steady s.evaluateRegime = steady s := by
  simp only [State.evaluateRegime]
  repeat' split
  all_goals simp

@[simp] theorem steady_floorDwell (s : State) : steady s.floorDwell = steady s := by
  simp only [State.floorDwell]
  repeat' split
  all_goals simp

@[simp] theorem steady_runOnCheck (s : State) : steady s.runOnCheck = steady s := by
  have ended (c : RunOnEnd) (began : Nat) : steady (s.endRunOn c began) = steady s :=
    (steady_raise (by simp [Event.kind]) _).trans (steady_putTsv _ s)
  simp only [State.runOnCheck]
  repeat' split
  all_goals simp [ended]

@[simp] theorem steady_supervise (s : State) : steady s.supervise = steady s := by
  have recirculation (u : State) : steady u.recirculation = steady u := steady_congr (by simp) (by simp) (by simp) (by simp)
  have noteRecirc (u : State) : steady u.noteRecirc = steady u := steady_putTsv _ u
  have ceilingStep (u : State) : steady u.ceilingStep = steady u := steady_congr (by simp) (by simp) (by simp) (by simp)
  have fastWatch (u : State) : steady u.fastWatch = steady u := steady_putTsv _ u
  simp [State.supervise, recirculation, noteRecirc, ceilingStep, fastWatch]

@[simp] theorem steady_superviseInOrder (o : PeriodOrder) (wakes rest : Bool) (s : State) :
    steady (s.superviseInOrder o wakes rest) = steady s := by
  simp only [State.superviseInOrder]
  repeat' split
  all_goals simp

/-! ### The geometry and the mesh build -/

@[simp] theorem steady_compose (s : State) : steady s.compose = steady s := by
  have composed (c : Composition) : steady { s with geo := { s.geo with comp := c } } = steady s := rfl
  simp only [State.compose]
  split
  · rw [steady_raise (by simp [Event.kind]), composed]
  · exact composed _

/-- R149: a build takes the engine's build and the state of the bank that is not live. -/
@[simp] theorem steady_startBuild (s : State) : steady s.startBuild = steady s := by
  unfold State.startBuild
  split
  · rfl
  · cases h : s.scp.live <;> simp [steady, tachometers, ScpBlock.withState, Bank.other]

@[simp] theorem steady_setGeometry (k : Keystone) (z : Nat) (s : State) : steady (s.setGeometry k z) = steady s := by
  have h : steady ({ s with geo := { s.geo with keystone := k, zoom := z } }.compose) = steady s :=
    (steady_compose _).trans (steady_congr rfl rfl rfl rfl)
  simp only [State.setGeometry]
  split
  · exact (steady_startBuild _).trans h
  · exact h

@[simp] theorem steady_handOver (s : State) : steady s.handOver = steady s := by
  unfold State.handOver State.setResiduals
  split
  · rfl
  · exact (steady_startBuild _).trans ((steady_compose _).trans (steady_congr rfl rfl rfl rfl))

/-! ### The lens controller -/

@[simp] theorem steady_putLens (l : LncBlock) (s : State) : steady (s.putLens l) = steady s := steady_congr rfl rfl rfl rfl

@[simp] theorem steady_reformResidual (rest : Bool) (s : State) : steady (s.reformResidual rest) = steady s := by
  simp [State.reformResidual]

@[simp] theorem steady_slipOfV (s : State) : steady s.slipOfV = steady s := by simp [State.slipOfV]

@[simp] theorem steady_captureTcal (s : State) : steady s.captureTcal = steady s := steady_putLens _ s

@[simp] theorem steady_complete (e : OutcomeEntry) (b : PerAxis (Option Int)) (s : State) :
    steady (s.complete e b) = steady s :=
  (steady_raise (by simp [Event.kind]) _).trans (steady_putLens _ s)

@[simp] theorem steady_settle (s : State) : steady s.settle = steady s := by
  unfold State.settle State.completeRequest
  repeat' split
  all_goals simp

@[simp] theorem steady_homeOrder (a : AxisId) (o : HomeOrigin) (s : State) : steady (s.homeOrder a o) = steady s :=
  steady_congr (by simp) (by simp) (by simp) (by simp)

@[simp] theorem steady_moveOrder (a : AxisId) (z : Int) (s : State) : steady (s.moveOrder a z).1 = steady s :=
  steady_congr (by simp) (by simp) (by simp) (by simp)

@[simp] theorem steady_giveOrder (a : AxisId) (r : Request) (s : State) : steady (s.giveOrder a r) = steady s := by
  unfold State.giveOrder
  split
  · rfl
  · simp
  · exact (steady_putLens _ _).trans (steady_moveOrder _ _ s)

@[simp] theorem steady_startRequest (r : Request) (s : State) : steady (s.startRequest r) = steady s := by
  have drift (u : State) : steady (u.startDrift r) = steady u := steady_congr (by simp) (by simp) (by simp) (by simp)
  have overrange (a : AxisId) (u : State) : steady (u.startOverrange a r) = steady u :=
    steady_congr (by simp) (by simp) (by simp) (by simp)
  simp only [State.startRequest, steady_giveOrder, steady_handOver, drift, overrange]
  split <;> simp

@[simp] theorem steady_serve (n : Nat) (s : State) : steady (s.serve n) = steady s := by
  induction n generalizing s with
  | zero => rfl
  | succ n ih =>
    unfold State.serve
    split
    · rfl
    · split
      · simp [ih]
      · rfl

@[simp] theorem steady_completeCorrection (c : Correction) (x : AxisAnswer) (s : State) :
    steady (s.completeCorrection c x) = steady s := by
  unfold State.completeCorrection
  split <;> simp

@[simp] theorem steady_deliver (a : AxisId) (x : Option AxisAnswer) (s : State) : steady (s.deliver a x) = steady s := by
  unfold State.deliver State.serveQueue
  repeat' split
  all_goals simp

@[simp] theorem steady_stopHoming (a : AxisId) (x : Axis) (s : State) : steady (s.stopHoming a x).1 = steady s :=
  (steady_raise (by simp [Event.kind]) _).trans (steady_congr (by simp) (by simp) (by simp) (by simp))

@[simp] theorem steady_putAxis (a : AxisId) (x : Axis) (s : State) : steady (s.putAxis a x) = steady s :=
  steady_congr (by simp) (by simp) (by simp) (by simp)

@[simp] theorem steady_toIdle (a : AxisId) (x : Axis) (s : State) : steady (s.toIdle a x) = steady s := steady_putAxis _ _ s

@[simp] theorem steady_haltOrder (a : AxisId) (s : State) : steady (s.haltOrder a).1 = steady s := by
  have moving (x : Axis) (m : Motion) : steady (s.haltMoving a x m).1 = steady s :=
    steady_congr (by simp) (by simp) (by simp) (by simp)
  have kept (x : Axis) : steady ((s.putAxis a x).raise (.homeDone a .stopped none (s.axis a).homeOrigin)) = steady s :=
    (steady_raise (by simp [Event.kind]) _).trans (steady_putAxis a x s)
  simp only [State.haltOrder]
  repeat' split
  all_goals simp [moving, kept]

@[simp] theorem steady_halt (a : AxisId) (s : State) : steady (s.halt a) = steady s := by
  simp [State.halt, State.andDeliver]

@[simp] theorem steady_resumeAxis (a : AxisId) (s : State) : steady (s.resumeAxis a).1 = steady s :=
  steady_congr (by simp) (by simp) (by simp) (by simp)

theorem steady_endHoldCondition (t : Temp) (s : State) : steady (s.endHoldCondition t) = steady s := by
  have raised (u : State) (e : PerAxis HoldEffect) : steady (u.raise (.motionHeld false t e)) = steady u :=
    steady_raise (by simp [Event.kind]) u
  have conditions : steady (s.putConditions s.axc.forced false) = steady s := steady_congr rfl rfl rfl rfl
  simp only [State.endHoldCondition, steady_deliver, raised, steady_resumeAxis, conditions]

theorem steady_enterHoldCondition (t : Temp) (s : State) : steady (s.enterHoldCondition t) = steady s :=
  (steady_raise (by simp [Event.kind]) _).trans (steady_congr (by simp) (by simp) (by simp) (by simp))

@[simp] theorem steady_driverChecks (s : State) : steady s.driverChecks = steady s := by
  have forced (t : Temp) : steady (s.forcedCheck t) = steady s := steady_congr (by simp) (by simp) (by simp) (by simp)
  simp only [State.driverChecks, State.holdCheck]
  repeat' split
  all_goals simp [forced, steady_endHoldCondition, steady_enterHoldCondition]

@[simp] theorem steady_startCorrection (z : Int) (s : State) : steady (s.startCorrection z) = steady s := by
  unfold State.startCorrection State.andDeliver
  repeat' split
  all_goals simp

@[simp] theorem steady_driftEvaluation (rest : Bool) (s : State) : steady (s.driftEvaluation rest) = steady s := by
  have desire : steady s.desireDrift = steady s := steady_congr (by simp) (by simp) (by simp) (by simp)
  simp only [State.driftEvaluation]
  repeat' split
  all_goals simp [desire]

@[simp] theorem steady_opticsInOrder (o : PeriodOrder) (rest : Bool) (s : State) :
    steady (s.opticsInOrder o rest) = steady s := by
  unfold State.opticsInOrder
  split <;> simp

@[simp] theorem steady_openFanPeriods (s : State) : steady s.openFanPeriods = steady s := rfl

/-! ## The period that begins (R54, R55) -/

/-- The control period timer: the length of the running period and the instant it began. -/
def timer (s : State) : Nat × Nat := (s.tsv.periodLen, s.tsv.periodStart)

theorem timer_congr {s t : State} (h : t.tsv = s.tsv) : timer t = timer s := by simp only [timer, h]

@[simp] theorem timer_resolveNotice (s : State) : timer s.resolveNotice = timer s := by
  simp only [State.resolveNotice]
  split <;> simp [timer]

theorem timer_changeRegime {adjust : TsvBlock → TsvBlock}
    (h : ∀ t, (adjust t).periodLen = t.periodLen ∧ (adjust t).periodStart = t.periodStart) (r : Regime) (c : CauseAt)
    (s : State) :
    timer (s.changeRegime r c adjust) = timer s := by
  have entered : timer (s.putTsv (adjust (s.tsv.enter r c))) = timer s := by
    cases r <;> simp [timer, h, TsvBlock.enter]
  refine Eq.trans (timer_congr ?_) ((timer_resolveNotice _).trans entered)
  simp only [State.changeRegime]
  split <;> simp

@[simp] theorem timer_evaluateRegime (s : State) : timer s.evaluateRegime = timer s := by
  have change := timer_changeRegime (adjust := id) (fun t => ⟨rfl, rfl⟩)
  have cut (limit : Nat) := timer_changeRegime (adjust := TsvBlock.fanLossCut limit) (fun t => ⟨rfl, rfl⟩)
  have noted (causes : List CauseAt) : timer (s.putTsv { s.tsv with causes := causes }) = timer s := rfl
  simp only [State.evaluateRegime]
  repeat' split
  all_goals simp [change, cut, noted]

@[simp] theorem timer_recirculation (s : State) : timer s.recirculation = timer s := by
  simp only [State.recirculation]
  repeat' split
  all_goals rfl

@[simp] theorem timer_ceilingStep (s : State) : timer s.ceilingStep = timer s := by
  simp only [State.ceilingStep]
  split <;> rfl

@[simp] theorem timer_floorDwell (s : State) : timer s.floorDwell = timer s := by
  simp only [State.floorDwell]
  repeat' split
  · exact timer_changeRegime (fun t => ⟨rfl, rfl⟩) _ _ _
  all_goals rfl

@[simp] theorem timer_runOnCheck (s : State) : timer s.runOnCheck = timer s := by
  simp only [State.runOnCheck]
  repeat' split
  all_goals rfl

theorem mem_workingValues {s : State} {c : Chan} {v : Temp} : (c, v) ∈ s.workingValues ↔ s.working c = some v := by
  simp [State.workingValues, mem_chanList]

theorem working_congr {s t : State} (hs : t.sen = s.sen) (hc : t.cfg = s.cfg) : t.working = s.working := by
  cases s; cases t; cases hs; cases hc
  rfl

/-- R55: the length of the period that begins now. -/
def nextLength (s : State) : Nat := s.fastWatch.tsv.periodLen

theorem nextLength_congr {s t : State} (hs : t.sen = s.sen) (hc : t.cfg = s.cfg) (ht : timer t = timer s) :
    nextLength t = nextLength s := by
  obtain ⟨hlen, -⟩ := Prod.mk.inj ht
  have hparams : t.chanParams = s.chanParams := by funext c; simp only [State.chanParams, hc]
  have hvalues : t.workingValues = s.workingValues := by simp only [State.workingValues, working_congr hs hc]
  simp only [nextLength, State.fastWatch, State.putTsv_tsv, hparams, hvalues, hlen]

theorem nextLength_mem (s : State) : nextLength s = 125 ∨ nextLength s = 250 := by
  simp only [nextLength, State.fastWatch, State.putTsv_tsv]
  repeat' split
  all_goals simp

/-- R55: fast watch begins where a channel stands within 5.0 °C of its warning threshold. -/
theorem nextLength_begins {s : State} (h : s.tsv.periodLen ≠ 125) :
    nextLength s = 125 ↔ ∃ c v, s.working c = some v ∧ (s.chanParams c).warning - 50 ≤ v := by
  have near : s.workingValues.any (fun c => (s.chanParams c.1).warning - 50 ≤ c.2) = true ↔
      ∃ c v, s.working c = some v ∧ (s.chanParams c).warning - 50 ≤ v := by
    simp only [List.any_eq_true, Prod.exists, mem_workingValues, decide_eq_true_eq]
  rw [← near]
  simp only [nextLength, State.fastWatch, State.putTsv_tsv, if_neg h]
  split
  case isTrue hnear => exact iff_of_true rfl hnear
  case isFalse hfar => exact iff_of_false (by decide) hfar

/-- R55: fast watch ends where every channel stands below its warning threshold by more than 8.0 °C. -/
theorem nextLength_ends {s : State} (h : s.tsv.periodLen = 125) :
    nextLength s = 250 ↔ ∀ c v, s.working c = some v → v < (s.chanParams c).warning - 80 := by
  have clear : s.workingValues.all (fun c => c.2 < (s.chanParams c.1).warning - 80) = true ↔
      ∀ c v, s.working c = some v → v < (s.chanParams c).warning - 80 := by
    simp only [List.all_eq_true, Prod.forall, mem_workingValues, decide_eq_true_eq]
  rw [← clear]
  simp only [nextLength, State.fastWatch, State.putTsv_tsv, if_pos h]
  split
  case isTrue hclear => exact iff_of_true rfl hclear
  case isFalse hwarm => exact iff_of_false (by decide) hwarm

theorem timer_supervise (s : State) : timer s.supervise = (nextLength s, s.now) := by
  have watched (u : State) (hs : u.sen = s.sen) (hc : u.cfg = s.cfg) (ht : timer u = timer s) (hn : u.now = s.now) :
      timer u.fastWatch = (nextLength s, s.now) := by
    rw [← nextLength_congr hs hc ht, ← hn]
    rfl
  have noteRecirc (u : State) : timer u.noteRecirc = timer u := rfl
  simp only [State.supervise, timer_resolveNotice, timer_runOnCheck]
  exact watched _ (by simp) (by simp) (by simp [noteRecirc]) (by simp)

theorem timer_superviseInOrder (o : PeriodOrder) (wakes rest : Bool) (s : State) :
    timer (s.superviseInOrder o wakes rest) = (nextLength s, s.now) := by
  have wake (u : State) : timer u.wakeByTemperature = timer u := timer_congr (by simp)
  have chain (u : State) : timer (u.dutyChain rest) = timer u := timer_congr (by simp)
  have length (u : State) (hs : u.sen = s.sen) (hc : u.cfg = s.cfg) (ht : u.tsv = s.tsv) : nextLength u = nextLength s :=
    nextLength_congr hs hc (timer_congr ht)
  simp only [State.superviseInOrder]
  repeat' split
  all_goals simp [wake, chain, timer_supervise, length]

/-! ## A period end -/

theorem samplePointDue_iff (s : State) :
    s.samplePointDue = true ↔ s.hli.rest = false ∨ ∀ t, s.sen.lastSample = some t → t + 2000 ≤ s.now := by
  cases h : s.sen.lastSample <;> simp [State.samplePointDue, h]

/-- The state a period end goes on from: that of the sample point where one is due. -/
def sampledState (th : Thermistors) (s : State) : State := if s.samplePointDue then s.samplePoint th else s

theorem sampledState_frame (th : Thermistors) (s : State) :
    (sampledState th s).now = s.now ∧ (sampledState th s).cfg = s.cfg ∧ (sampledState th s).fan = s.fan ∧
      (sampledState th s).tsv = s.tsv ∧ (sampledState th s).mse = s.mse ∧ (sampledState th s).scp = s.scp := by
  unfold sampledState
  split <;> simp

theorem periodEnds_sen (th : Thermistors) (o : PeriodOrder) (s : State) :
    (s.periodEnds th o).sen = (sampledState th s).sen := by
  simp [State.periodEnds, sampledState]

/-- After the fan checks, a period end leaves what is steady. -/
theorem periodEnds_steady (th : Thermistors) (o : PeriodOrder) (s : State) :
    steady (s.periodEnds th o) = steady (sampledState th s).fanChecks := by
  simp [State.periodEnds, sampledState]

theorem periodEnds_timer (th : Thermistors) (o : PeriodOrder) (s : State) :
    timer (s.periodEnds th o) = (nextLength (sampledState th s), s.now) := by
  obtain ⟨hnow, -, -, -, -, -⟩ := sampledState_frame th s
  have checked : nextLength (sampledState th s).fanChecks = nextLength (sampledState th s) :=
    nextLength_congr (by simp) (by simp) (timer_congr (by simp))
  have supervised := timer_superviseInOrder o s.samplePointDue s.hli.rest (sampledState th s).fanChecks
  rw [checked, (State.fanChecks_frame _).1, hnow] at supervised
  exact (timer_congr (by simp [State.periodEnds, sampledState])).trans supervised

/-- What a period end can change at all. -/
theorem periodEnds_eq (th : Thermistors) (o : PeriodOrder) (s : State) :
    let t := s.periodEnds th o
    t = { s with sen := t.sen, fan := t.fan, tsv := t.tsv, lel := t.lel, axc := t.axc, lnc := t.lnc, geo := t.geo
                 mse := { s.mse with build := t.mse.build }
                 scp := { s.scp with stateA := t.scp.stateA, stateB := t.scp.stateB }
                 hli := { s.hli with queue := t.hli.queue, rest := t.hli.rest } } := by
  intro t
  have hsteady : steady t = steady (sampledState th s).fanChecks := periodEnds_steady th o s
  obtain ⟨-, -, -, -, hmse, hscp⟩ := sampledState_frame th s
  simp only [steady, Prod.mk.injEq, State.fanChecks_frame, hmse, hscp] at hsteady
  obtain ⟨-, hmse, hscp, -⟩ := hsteady
  apply State.eq_of_blocks
  simp only [t, State.periodEnds_frame, true_and, and_true]
  refine ⟨?_, ?_, ?_⟩
  · exact congrArg (fun m : MseBlock => { m with build := t.mse.build }) hmse
  · exact congrArg (fun p : ScpBlock => { p with stateA := t.scp.stateA, stateB := t.scp.stateB }) hscp
  · exact HliBlock.eq_of_fields (by simp)

/-! ### Fans (R41) -/

theorem tachometers_fanOf {s t : State} (h : tachometers t = tachometers s) (f : FanId) :
    (t.fanOf f).speed = (s.fanOf f).speed ∧ (t.fanOf f).pulses = (s.fanOf f).pulses := by
  have hf := congrArg (fun p => p.get f) h
  cases f <;> exact Prod.mk.inj hf

theorem beginKick_tachometer (now attempts : Nat) (x : Fan) :
    (x.beginKick now attempts).speed = x.speed ∧ (x.beginKick now attempts).pulses = x.pulses :=
  noteDuty_tachometer now 1000 x

theorem stallCheck_tachometer (now start : Nat) (p : FanParams) (x : Fan) :
    (x.stallCheck now start p).speed = x.speed ∧ (x.stallCheck now start p).pulses = x.pulses := by
  unfold Fan.stallCheck
  repeat' split
  all_goals simp [beginKick_tachometer]

theorem recoveryCheck_tachometer (now start : Nat) (p : FanParams) (x : Fan) :
    (x.recoveryCheck now start p).speed = x.speed ∧ (x.recoveryCheck now start p).pulses = x.pulses := by
  unfold Fan.recoveryCheck
  split <;> simp

theorem fanChecks_fanOf (s : State) (f : FanId) :
    let x := (s.fanOf f).closePeriod s.now s.tsv.periodLen
    s.fanChecks.fanOf f =
      if x.st = .running then x.stallCheck s.now s.tsv.periodStart (s.fanParams f)
      else x.recoveryCheck s.now s.tsv.periodStart (s.fanParams f) := by
  cases f <;> rfl

/-- R41: the fan checks measure each fan's speed over the period and begin its count again. -/
theorem fanChecks_tachometer (s : State) (f : FanId) :
    (s.fanChecks.fanOf f).speed = min 65535 ((s.fanOf f).pulses * 30000 / s.tsv.periodLen) ∧
      (s.fanChecks.fanOf f).pulses = 0 := by
  rw [fanChecks_fanOf]
  split
  · rw [(stallCheck_tachometer _ _ _ _).1, (stallCheck_tachometer _ _ _ _).2]; exact ⟨rfl, rfl⟩
  · rw [(recoveryCheck_tachometer _ _ _ _).1, (recoveryCheck_tachometer _ _ _ _).2]; exact ⟨rfl, rfl⟩

theorem periodEnds_tachometer (th : Thermistors) (o : PeriodOrder) (s : State) (f : FanId) :
    ((s.periodEnds th o).fanOf f).speed = min 65535 ((s.fanOf f).pulses * 30000 / s.tsv.periodLen) ∧
      ((s.periodEnds th o).fanOf f).pulses = 0 := by
  obtain ⟨-, -, hfan, htsv, -, -⟩ := sampledState_frame th s
  have kept := tachometers_fanOf (congrArg Prod.fst (periodEnds_steady th o s)) f
  have checked := fanChecks_tachometer (sampledState th s) f
  rw [kept.1, kept.2, checked.1, checked.2, State.fanOf, hfan, htsv]
  exact ⟨rfl, rfl⟩

/-! ### Channels (R19 to R26) -/

theorem sampled_quality (th : Thermistors) {s : State} {c : Chan} (hp : (s.channel c).present = true) :
    let y := sampled th s c
    y.present = true ∧ y.held = none ∧
      y.handed = some (y.filtered.getD (s.chanParams c).warning,
        if y.fault then .fault else if y.window = [] then .unknown else .known) := by
  obtain ⟨hpresent, -, -⟩ := take_frame (s.chanParams c).warning (s.sampleFor th c) (s.channel c)
  rw [sampled_present hp]
  refine ⟨hpresent.trans hp, rfl, ?_⟩
  simp [Channel.handOn, Channel.quality]

theorem sampled_valid {th : Thermistors} {s : State} {c : Chan} {v : Temp} (hp : (s.channel c).present = true)
    (hv : s.sampleFor th c = .valid v) :
    let x := s.channel c
    let y := sampled th s c
    y.window = (if 4 ≤ x.window.length then x.window.drop 1 else x.window) ++ [v] ∧
      (x.fault = false ∨ 3 ≤ x.validRun → y.fault = false ∧ y.invalidRun = 0 ∧ y.filtered = some (windowMean y.window)) ∧
      (x.fault = true → 3 ≤ x.validRun → y.validRun = 0) ∧
      (x.fault = true → x.validRun < 3 →
        y.fault = true ∧ y.validRun = x.validRun + 1 ∧ y.filtered = some (s.chanParams c).warning) := by
  rw [sampled_present hp, afterSample, hv]
  have normal (h) := take_valid_normal (s.chanParams c).warning v (c := s.channel c) h
  have fault (hf) (h) := take_valid_fault (s.chanParams c).warning v (c := s.channel c) hf h
  refine ⟨?_, fun h => ?_, fun hf h => ?_, fun hf h => ?_⟩
  · by_cases h : (s.channel c).fault = false ∨ 3 ≤ (s.channel c).validRun
    · rw [normal h]; rfl
    · rw [fault (by simp_all) (by omega)]; rfl
  · rw [normal h]; exact ⟨rfl, rfl, rfl⟩
  · rw [normal (.inr h)]; exact if_pos hf
  · rw [fault hf h]; exact ⟨hf, rfl, rfl⟩

theorem sampled_invalid {th : Thermistors} {s : State} {c : Chan} {k : SensorCause} (hp : (s.channel c).present = true)
    (hk : s.sampleFor th c = .invalid k) :
    let x := s.channel c
    let y := sampled th s c
    (x.fault = false → x.invalidRun = 0 →
        y.fault = false ∧ y.invalidRun = 1 ∧ y.window = x.window ∧ y.filtered = x.filtered) ∧
      (x.fault = true ∨ 1 ≤ x.invalidRun →
        y.fault = true ∧ y.window = [] ∧ y.validRun = 0 ∧ y.filtered = some (s.chanParams c).warning) := by
  rw [sampled_present hp, afterSample, hk]
  refine ⟨fun hf h => ?_, fun h => ?_⟩
  · rw [take_invalid_first _ _ hf h]; exact ⟨hf, rfl, rfl, rfl⟩
  · rw [take_invalid_fault _ _ h]; exact ⟨rfl, rfl, rfl, rfl⟩

theorem sampled_missing {th : Thermistors} {s : State} {c : Chan} (hp : (s.channel c).present = true)
    (hm : s.sampleFor th c = .missing) :
    let x := s.channel c
    let y := sampled th s c
    y.window = x.window ∧ y.fault = x.fault ∧ y.invalidRun = x.invalidRun ∧ y.validRun = x.validRun ∧
      y.filtered = (if x.fault then some (s.chanParams c).warning else x.filtered) := by
  rw [sampled_present hp, afterSample, hm, take_missing]
  exact ⟨rfl, rfl, rfl, rfl, rfl⟩

/-! ### SENSOR_FAULT (R25) -/

/-- A change into FAULT comes of an invalid sample, and names its cause. -/
theorem changeCause_of_fault {warning : Temp} {x : Sample} {c : Channel} (h : c.fault = false)
    (ht : (c.take warning x).1.fault = true) : x = .invalid (changeCause c x) := by
  cases x with
  | invalid k => simp [changeCause, h]
  | _ => simp [Channel.take, Channel.takeNormal, h] at ht

/-- The cause of a change of condition: RECOVERED where the channel leaves FAULT, else the invalid sample's. -/
theorem changes_cause {th : Thermistors} {s : State} {c : Chan} (h : changes th s c = true) :
    ((sampled th s c).fault = false → changeCause (s.channel c) (s.sampleFor th c) = .recovered) ∧
      ((sampled th s c).fault = true → s.sampleFor th c = .invalid (changeCause (s.channel c) (s.sampleFor th c))) := by
  have hne : (sampled th s c).fault ≠ (s.channel c).fault := by simpa [changes] using h
  have hp : (s.channel c).present = true := by
    cases hp : (s.channel c).present with
    | true => rfl
    | false => exact absurd (congrArg Channel.fault (sampled_absent hp)) hne
  refine ⟨fun hf => ?_, fun hf => ?_⟩
  · have hx : (s.channel c).fault = true := by simpa [hf] using hne.symm
    simp [changeCause, hx]
  · have hx : (s.channel c).fault = false := by simpa [hf] using hne.symm
    rw [sampled_present hp] at hf
    exact changeCause_of_fault hx hf

theorem periodEnds_faults (th : Thermistors) (o : PeriodOrder) (s : State) :
    sensorFaults (s.periodEnds th o).hli.queue = sensorFaults (sampledState th s).hli.queue := by
  have h := congrArg (fun p => p.2.2.2) (periodEnds_steady th o s)
  simpa [steady] using h

/-- R25: a period end raises a SENSOR_FAULT for each channel whose condition it changes, in ascending order. -/
theorem sampledState_faults (th : Thermistors) (s : State) :
    let changed := Chan.list.filter (fun c => ((sampledState th s).channel c).fault != (s.channel c).fault)
    sensorFaults (sampledState th s).hli.queue =
        (changed.map (faultEvent th s)).foldl (fun q e => insertEvent e q) (sensorFaults s.hli.queue) ∧
      ∀ c ∈ changed, (sampledState th s).channel c = sampled th s c ∧ changes th s c = true := by
  unfold sampledState
  split
  · simp only [samplePoint_channel, samplePoint_queue]
    refine ⟨sensorFaults_insertAll (fun e he => ?_) _, fun c hc => ⟨trivial, (List.mem_filter.mp hc).2⟩⟩
    obtain ⟨c, -, rfl⟩ := List.mem_map.mp he
    rfl
  · have none : Chan.list.filter (fun c => (s.channel c).fault != (s.channel c).fault) = [] :=
      List.filter_eq_nil_iff.mpr (fun c _ => by rw [bne_self_eq_false]; decide)
    simp only [none]
    exact ⟨rfl, fun c hc => nomatch hc⟩

theorem periodEnds_channel (th : Thermistors) (o : PeriodOrder) (s : State) (c : Chan) :
    (s.periodEnds th o).channel c = (sampledState th s).channel c :=
  congrArg (fun b : SenBlock => b.channels.get c) (periodEnds_sen th o s)

theorem periodEnds_raises_none {th : Thermistors} {o : PeriodOrder} {s : State}
    (h : Chan.list.filter (fun c => ((s.periodEnds th o).channel c).fault != (s.channel c).fault) = []) :
    sensorFaults (s.periodEnds th o).hli.queue = sensorFaults s.hli.queue := by
  simp only [periodEnds_channel] at h
  rw [periodEnds_faults, (sampledState_faults th s).1, h]
  rfl

theorem periodEnds_raises {th : Thermistors} {o : PeriodOrder} {s : State} (hq : QueueOk s.hli.queue) {c : Chan}
    (hlast : (Chan.list.filter (fun c => ((s.periodEnds th o).channel c).fault != (s.channel c).fault)).getLast? = some c) :
    let t := s.periodEnds th o
    let changed := Chan.list.filter (fun c => (t.channel c).fault != (s.channel c).fault)
    ∃ cause,
      sensorFaults t.hli.queue =
        [{ count := min 255 (((sensorFaults s.hli.queue).map (fun e => e.count)).sum + changed.length)
           detail := .sensorFault c (t.channel c).fault cause }] ∧
      ((t.channel c).fault = false → cause = .recovered) ∧
      ((t.channel c).fault = true → s.sampleFor th c = .invalid cause) := by
  simp only [periodEnds_channel, periodEnds_faults] at hlast ⊢
  obtain ⟨hraised, hchanged⟩ := sampledState_faults th s
  obtain ⟨hc, hchanges⟩ := hchanged c (List.mem_of_getLast? hlast)
  rw [hc]
  refine ⟨_, ?_, changes_cause hchanges⟩
  rw [hraised, insertAll_single (e := faultEvent th s c) (sensorFaults_length_le_one hq) (fun x hx => ?_) (fun x hx => ?_)
    (by rw [List.getLast?_map, hlast]; rfl), List.length_map]
  · rfl
  · simpa using (List.mem_filter.mp hx).2
  · obtain ⟨d, -, rfl⟩ := List.mem_map.mp hx
    rfl

/-! ### The samples (R17, R18) -/

theorem sampleFor_light (th : Thermistors) (s : State) {c : Chan} (h : c = .s6 ∨ c = .s7) :
    s.sampleFor th c = lightSample s.lel.st (s.channel c).held := by
  rcases h with rfl | rfl <;> rfl

/-- R17, R18: the sample of each channel. -/
theorem sampleFor_cases (th : Thermistors) (s : State) :
    let ranged (v : Temp) : Sample := if -300 ≤ v ∧ v ≤ 1400 then .valid v else .invalid .outOfRange
    s.sampleFor th .s0 = ranged th.th0 ∧ s.sampleFor th .s1 = ranged th.th1 ∧ s.sampleFor th .s2 = ranged th.th2 ∧
    s.sampleFor th .s3 = ranged th.th3 ∧ s.sampleFor th .s4 = ranged th.th4 ∧ s.sampleFor th .s5 = ranged th.th5 ∧
    ∀ c, c = .s6 ∨ c = .s7 →
      (s.lel.st ≠ .up → s.sampleFor th c = .invalid .linkNotUp) ∧
      (s.lel.st = .up →
        s.sampleFor th c = (match (s.channel c).held with
          | some (some v) => ranged v
          | some none => .invalid .markedInvalid
          | none => .missing)) := by
  refine ⟨rfl, rfl, rfl, rfl, rfl, rfl, fun c h => ?_⟩
  rw [sampleFor_light th s h]
  unfold lightSample
  refine ⟨fun hdown => if_neg hdown, fun hup => ?_⟩
  rw [if_pos hup]
  rcases (s.channel c).held with - | - | v <;> rfl

/-! ### The statement -/

/-- Settles O31: the sample point makes of each channel what its sample makes of it (`sampled_valid`, `sampled_invalid`,
`sampled_missing`), and what comes after the fan checks leaves the channels, the SENSOR_FAULTs and the speeds
(`periodEnds_steady`) and sets the timer by fast watch (`periodEnds_timer`). -/
theorem controlPeriodEndSamples : Obligations.ControlPeriodEndSamples := by
  refine ⟨fun th o s hrun => ?_, sampleFor_cases⟩
  intro now due
  let u := s.clockTo s.tsv.periodDue
  have hdue : u.samplePointDue = true ↔ due := samplePointDue_iff u
  have hsen : (u.periodEnds th o).sen = (sampledState th u).sen := periodEnds_sen th o u
  obtain ⟨-, hcfg, -, htsv, -, -⟩ := sampledState_frame th u
  have hworking : (u.periodEnds th o).working = (sampledState th u).working :=
    working_congr hsen (by rw [hcfg]; simp)
  obtain ⟨hlength, hstart⟩ := Prod.mk.inj (periodEnds_timer th o u)
  have hmem := nextLength_mem (sampledState th u)
  have hbegins := nextLength_begins (s := sampledState th u)
  have hends := nextLength_ends (s := sampledState th u)
  simp only [← hlength, ← hworking, htsv, State.chanParams, hcfg] at hmem hbegins hends
  have hexec : exec (.controlPeriodEnd th o) s = .next (u.periodEnds th o) :=
    State.perform_running (e := fun s => (s.clockTo s.tsv.periodDue).periodEnds th o) hrun
  have hkept := periodEnds_eq th o u
  have hfans := periodEnds_tachometer th o u
  have hchannel := periodEnds_channel th o u
  have hnone := @periodEnds_raises_none th o u
  have hraises := @periodEnds_raises th o u
  generalize u.periodEnds th o = t at *
  refine ⟨t, hexec, hkept, hstart, fun h => ?_, fun h => ?_, fun h c => ?_, ⟨hnone, fun hq c => hraises hq⟩, hfans,
    hmem, hbegins, hends⟩
  · rw [hsen, sampledState, if_neg (mt hdue.mp h)]
    rfl
  · rw [hsen, sampledState, if_pos (hdue.mpr h)]
    exact samplePoint_lastSample th u
  · have hy : t.channel c = sampled th u c := by
      rw [hchannel, sampledState, if_pos (hdue.mpr h), samplePoint_channel]
    intro x y warning
    simp only [y, hy]
    refine ⟨sampled_absent, fun hp => ?_⟩
    obtain ⟨hpresent, hheld, hhanded⟩ := sampled_quality th (s := u) hp
    exact ⟨hpresent, hheld, hhanded, fun v => sampled_valid hp, fun k => sampled_invalid hp, sampled_missing hp⟩

/-! ## The state after reset -/

theorem reset_banksOk : BanksOk State.reset := by
  refine ⟨rfl, by decide, by decide, fun b h => ?_, fun k phase due h => ?_⟩ <;> cases h

theorem reset_emergencyFansOk : EmergencyFansOk State.reset := by
  refine ⟨fun f h => ?_, fun h => by cases h⟩
  cases f <;> cases h

/-- Every fan is OFF, at duty 0, with no timer running. -/
theorem reset_capOk : CapOk State.reset := by
  refine ⟨fun f h => ?_, fun f h => ?_, fun r h => ?_, fun _ _ f _ => ?_⟩
  · cases f <;> cases h
  · cases f <;> cases h
  · cases h
  · cases f <;> exact Nat.zero_le _

/-- V stands at REDUCED, UNREFERENCED. -/
theorem reset_vHoldOk : VHoldOk State.reset := by
  rintro (h | h) <;> cases h

/-- Both axes are UNREFERENCED at rest, with no order. -/
theorem reset_axesOk : AxesOk State.reset := by
  intro a
  cases a <;> simp [AxisOk, State.reset, State.afterReset, State.axis, AxcBlock.reset, PerAxis.get, Axis.reset,
    AxisState.inMotion]

/-- Settles O18: each invariant is read off the values of `State.reset`. -/
theorem resetMeetsInvariants : Obligations.ResetMeetsInvariants := by
  have queue : QueueOk State.reset.hli.queue := ⟨.nil, by decide⟩
  have lists : LensListsOk State.reset.lnc := by unfold LensListsOk; decide
  have ceiling : CeilingOk State.reset.tsv := by unfold CeilingOk; decide
  have counters : CountersOk State.reset := by unfold CountersOk; decide
  have notice : NoticeOk State.reset := ⟨rfl, rfl, fun n h => by cases h⟩
  exact ⟨queue, reset_banksOk, lists, ceiling, counters, reset_emergencyFansOk, reset_capOk, reset_vHoldOk, notice,
    reset_axesOk, rfl⟩

end Sys2Proof.TemperatureChannels
end
